-- ==== Sys2Proof/Word.lean ====
section
/-! DEFINITION. The two word types of the core: 8-bit registers, memory bytes and ports, and 16-bit SP, PC and
addresses (00_scope.md R9). -/

namespace Sys2Proof

/-- An 8-bit register, a memory byte or a port number (R9). -/
abbrev Byte := BitVec 8

/-- A 16-bit register pair, SP, PC or address (R9). -/
abbrev Word := BitVec 16

end Sys2Proof
end

