-- ==== Sys2Proof/Machine/Bits.lean ====
section
/-! DEFINITION. The byte and word helpers of 00_scope.md R11. -/

namespace Sys2Proof

/-- `pair(h, l) = h * 256 + l` (R11). -/
def pair (h l : Byte) : Word := BitVec.ofNat 16 (h.toNat * 256 + l.toNat)

/-- `hi8(v) = (v div 256) mod 256` (R11). -/
def hi8 (v : Word) : Byte := BitVec.ofNat 8 (v.toNat / 256)

/-- `lo8(v) = v mod 256` (R11). -/
def lo8 (v : Word) : Byte := BitVec.ofNat 8 v.toNat

/-- `v mod 256`, the residue 0..255 of an integer (R52). -/
def lowByte (v : Int) : Byte := BitVec.ofInt 8 v

/-- `v mod 2^16` of an integer (R33, R34). -/
def lowWord (v : Int) : Word := BitVec.ofInt 16 v

/-- `(v >> n) & 0xFF`: the byte of a word that begins at bit n. -/
def byteAt (v : BitVec 16) (n : Nat) : Byte := BitVec.ofNat 8 (v.toNat >>> n)

end Sys2Proof
end

