-- ==== Sys2Proof/Syntax.lean ====
section
/-! DEFINITION. The instructions of the core: one constructor of Instr per row of spec/opcode_table.json (244 documented
opcodes and the 12 illegal byte values), and the register, pair, condition and operation names their operands use
(30_encoding.md R124 to R128). -/

namespace Sys2Proof

/-- The seven 8-bit general registers (10_state.md R30, 90_conflicts.md C1). -/
inductive Reg where
  | b | c | d | e | h | l | a
  deriving DecidableEq, Repr

/-- The register pairs of LXI, INX, DCX and DAD (30_encoding.md R126). -/
inductive Pair where
  | bc | de | hl | sp
  deriving DecidableEq, Repr

/-- The register pairs of PUSH and POP whose value is two general registers; PUSH PSW and POP PSW stand apart
(30_encoding.md R126). -/
inductive StackPair where
  | bc | de | hl
  deriving DecidableEq, Repr

/-- The two address pairs of LDAX and STAX (30_encoding.md R126). -/
inductive AddrPair where
  | bc | de
  deriving DecidableEq, Repr

/-- The eight conditions of Jcc, Ccc and Rcc (30_encoding.md R127). -/
inductive Cond where
  | nz | z | nc | c | po | pe | p | m
  deriving DecidableEq, Repr

/-- The eight operations of the ALU group (30_encoding.md R128). -/
inductive AluOp where
  | add | adc | sub | sbb | ana | xra | ora | cmp
  deriving DecidableEq, Repr

/-- Where an 8-bit operand comes from: a register, the memory byte at HL (`M`, 10_state.md R32), or the immediate
byte after the opcode (30_encoding.md R135). -/
inductive Src where
  | reg (r : Reg)
  | mem
  | imm (d : Byte)
  deriving DecidableEq, Repr

/-- One instruction of the core.  The arguments are the operand bytes (30_encoding.md R135): an 8-bit immediate or a
port number is a Byte, a 16-bit immediate or address is a Word.  Register operands are part of the constructor, as
they are part of the table's row.  The constructors with an operand come first, then the others, each in the table's
order (Lean's compiled code bounds the place of a constructor that has fields). -/
inductive Instr where
  | lxiB (d : Word)
  | mviB (d : Byte)
  | mviC (d : Byte)
  | lxiD (d : Word)
  | mviD (d : Byte)
  | mviE (d : Byte)
  | lxiH (d : Word)
  | shld (a : Word)
  | mviH (d : Byte)
  | lhld (a : Word)
  | mviL (d : Byte)
  | lxiSP (d : Word)
  | sta (a : Word)
  | mviM (d : Byte)
  | lda (a : Word)
  | mviA (d : Byte)
  | jnz (a : Word)
  | jmp (a : Word)
  | cnz (a : Word)
  | adi (d : Byte)
  | jz (a : Word)
  | cz (a : Word)
  | call (a : Word)
  | aci (d : Byte)
  | jnc (a : Word)
  | outPort (p : Byte)
  | cnc (a : Word)
  | sui (d : Byte)
  | jc (a : Word)
  | inPort (p : Byte)
  | cc (a : Word)
  | sbi (d : Byte)
  | jpo (a : Word)
  | cpo (a : Word)
  | ani (d : Byte)
  | jpe (a : Word)
  | cpe (a : Word)
  | xri (d : Byte)
  | jp (a : Word)
  | cp (a : Word)
  | ori (d : Byte)
  | jm (a : Word)
  | cm (a : Word)
  | cpi (d : Byte)
  | nop
  | staxB
  | inxB
  | inrB
  | dcrB
  | rlc
  | illegal08
  | dadB
  | ldaxB
  | dcxB
  | inrC
  | dcrC
  | rrc
  | illegal10
  | staxD
  | inxD
  | inrD
  | dcrD
  | ral
  | illegal18
  | dadD
  | ldaxD
  | dcxD
  | inrE
  | dcrE
  | rar
  | illegal20
  | inxH
  | inrH
  | dcrH
  | daa
  | illegal28
  | dadH
  | dcxH
  | inrL
  | dcrL
  | cma
  | illegal30
  | inxSP
  | inrM
  | dcrM
  | stc
  | illegal38
  | dadSP
  | dcxSP
  | inrA
  | dcrA
  | cmc
  | movBB
  | movBC
  | movBD
  | movBE
  | movBH
  | movBL
  | movBM
  | movBA
  | movCB
  | movCC
  | movCD
  | movCE
  | movCH
  | movCL
  | movCM
  | movCA
  | movDB
  | movDC
  | movDD
  | movDE
  | movDH
  | movDL
  | movDM
  | movDA
  | movEB
  | movEC
  | movED
  | movEE
  | movEH
  | movEL
  | movEM
  | movEA
  | movHB
  | movHC
  | movHD
  | movHE
  | movHH
  | movHL
  | movHM
  | movHA
  | movLB
  | movLC
  | movLD
  | movLE
  | movLH
  | movLL
  | movLM
  | movLA
  | movMB
  | movMC
  | movMD
  | movME
  | movMH
  | movML
  | hlt
  | movMA
  | movAB
  | movAC
  | movAD
  | movAE
  | movAH
  | movAL
  | movAM
  | movAA
  | addB
  | addC
  | addD
  | addE
  | addH
  | addL
  | addM
  | addA
  | adcB
  | adcC
  | adcD
  | adcE
  | adcH
  | adcL
  | adcM
  | adcA
  | subB
  | subC
  | subD
  | subE
  | subH
  | subL
  | subM
  | subA
  | sbbB
  | sbbC
  | sbbD
  | sbbE
  | sbbH
  | sbbL
  | sbbM
  | sbbA
  | anaB
  | anaC
  | anaD
  | anaE
  | anaH
  | anaL
  | anaM
  | anaA
  | xraB
  | xraC
  | xraD
  | xraE
  | xraH
  | xraL
  | xraM
  | xraA
  | oraB
  | oraC
  | oraD
  | oraE
  | oraH
  | oraL
  | oraM
  | oraA
  | cmpB
  | cmpC
  | cmpD
  | cmpE
  | cmpH
  | cmpL
  | cmpM
  | cmpA
  | rnz
  | popB
  | pushB
  | rst0
  | rz
  | ret
  | illegalCB
  | rst1
  | rnc
  | popD
  | pushD
  | rst2
  | rc
  | illegalD9
  | illegalDD
  | rst3
  | rpo
  | popH
  | xthl
  | pushH
  | rst4
  | rpe
  | pchl
  | xchg
  | illegalED
  | rst5
  | rp
  | popPSW
  | di
  | pushPSW
  | rst6
  | rm
  | sphl
  | ei
  | illegalFD
  | rst7
  deriving DecidableEq, Repr

end Sys2Proof
end

