-- ==== Sys2Proof/Config.lean ====
section
/-! DEFINITION. The named parameters of 00_scope.md R10 that a step reads, as plain data.  A state carries its
parameters in the field `cfg`, which no step changes, so every statement about all states holds for every value of
every parameter.  The parameters that only the construction of the core reads (START_PC, RESET_REGS, MEM_INIT, the
image) are arguments of `boot` in Machine/Boot.lean.  The one value the spec leaves open for good, the text of a message,
is the free value `Config.freeMessage`. -/

namespace Sys2Proof

/-- What an address past 0x0000 or 0xFFFF does (20_memory.md R93, R94; 92 D9, D10). -/
inductive AddrPolicy where
  | fault | wrap
  deriving DecidableEq, Repr

/-- How DAA computes CY (10_state.md R63; 90 C6; 92 D7). -/
inductive DaaCarry where
  | wide | narrow
  deriving DecidableEq, Repr

/-- When interrupt requests arrive (60_exceptions.md R418; 92 D15). -/
inductive Schedule where
  | free | frame
  deriving DecidableEq, Repr

/-- One entry of CYCLE_TABLE that differs from the default table of 70_reset_and_hazards.md R520. -/
structure CycleEntry where
  opcode : Byte
  notTaken : Nat
  taken : Nat
  deriving DecidableEq, Repr

/-- The parameters of R10 that a step reads. -/
structure Config where
  /-- `DATA_ADDR_POLICY`: fetch and the second byte of LHLD and SHLD (R93). -/
  dataAddrPolicy : AddrPolicy
  /-- `STACK_ADDR_POLICY`: stack addresses (R94). -/
  stackAddrPolicy : AddrPolicy
  /-- `UNIMPLEMENTED`: the opcodes the decoder refuses as unknown (R133). -/
  unimplemented : List Byte
  /-- `CYCLE_TABLE`: the entries that differ from R520's table; the first entry of an opcode counts. -/
  cycleEntries : List CycleEntry
  /-- `HALT_STEP_CYCLES`: the cycles a halted step reports (R121, R522). -/
  haltStepCycles : Nat
  /-- `INTERRUPT_SCHEDULE` (R418). -/
  schedule : Schedule
  /-- `CYCLES_PER_FRAME`, left OPEN by the spec (R10, R446; log 4). -/
  cyclesPerFrame : Nat
  /-- `HALF_FRAME_CYCLES` (R10). -/
  halfFrameCycles : Nat
  /-- `DAA_CARRY` (R63). -/
  daaCarry : DaaCarry
  /-- `TEST_HARNESS`: whether the self-test CALL 5 convention is active (R448). -/
  testHarness : Bool
  deriving DecidableEq, Repr

/-- The spec's defaults (R10).  `cyclesPerFrame` is OPEN there; 33333, one of the two values the spec names, is a
DESIGN CHOICE (log 4, unsafe), and `halfFrameCycles` is the floor of its half (D20). -/
def Config.default : Config where
  dataAddrPolicy := .fault
  stackAddrPolicy := .wrap
  unimplemented := [0x08, 0x10, 0x18, 0x20, 0x28, 0x30, 0x38, 0xCB, 0xD9, 0xDD, 0xED, 0xFD]
  cycleEntries := []
  haltStepCycles := 4
  schedule := .free
  cyclesPerFrame := 33333
  halfFrameCycles := 16666
  daaCarry := .wide
  testHarness := false

/-- The text of the message that draw n gives.  The spec gives Success and Failure a message (60_exceptions.md R407,
R448) and not its text (91 N17), so it is a free value: it has no body and nothing is known of it (DESIGN CHOICE,
log 17). -/
opaque Config.freeMessage : Nat → String

end Sys2Proof
end

