-- ==== Sys2Proof/Machine/State.lean ====
section
/-! DEFINITION. The state of the machine as plain data: the core's registers, flags, SP, PC, INTE and halted flag, the
memory, the platform state of 60_exceptions.md R430, the frame scheduler's count, the result of the last step, the
environment's coming events, the count of free values drawn and the parameters; the reasons a step stops; and the state right after reset. -/

namespace Sys2Proof.Machine

/-- The seven general registers (10_state.md R30). -/
structure Regs where
  b : Byte
  c : Byte
  d : Byte
  e : Byte
  h : Byte
  l : Byte
  a : Byte
  deriving DecidableEq, Repr

/-- The five condition flags (10_state.md R37). -/
structure Flags where
  s : Bool
  z : Bool
  ac : Bool
  p : Bool
  cy : Bool
  deriving DecidableEq, Repr

/-- Memory: the bytes that differ from what an unlisted address reads as, by strictly rising address
(20_memory.md R90).  `Memory.read`, `Memory.write` and `Memory.wf` are in Machine/Memory.lean. -/
abbrev Memory := List Host.Cell

/-- The two interrupt request lines (60_exceptions.md R410). -/
inductive IrqLine where
  | line1 | line2
  deriving DecidableEq, Repr

/-- The platform's port devices and the pause flag (60_exceptions.md R408, R430). -/
structure Ports where
  shiftValue : BitVec 16
  shiftOffset : BitVec 3
  in1 : Byte
  in2 : Byte
  out3 : Byte
  out5 : Byte
  paused : Bool
  deriving DecidableEq, Repr

/-- Which loop of `run_one_frame` the frame scheduler is in (60_exceptions.md R420). -/
inductive FrameHalf where
  | first | second
  deriving DecidableEq, Repr

/-- The frame scheduler (60_exceptions.md R420, R446): the cycles counted in this frame, the half it is in, and the
count the last whole frame returned. -/
structure Frame where
  cycles : Nat
  half : FrameHalf
  returned : Nat
  deriving DecidableEq, Repr

/-- The inputs the host's key handling sets (60_exceptions.md R440). -/
inductive Input where
  | coin | start2 | start1 | fire1 | left1 | right1 | tilt | fire2 | left2 | right2
  deriving DecidableEq, Repr

/-- One thing the host does between two steps (60_exceptions.md R442): set or clear the bit of an input, set or clear
the pause flag. -/
inductive HostAction where
  | input (k : Input) (on : Bool)
  | pause (on : Bool)
  deriving DecidableEq, Repr

/-- What happens at one boundary: the host's actions, in order, and under the `Free` schedule at most one interrupt
request (60_exceptions.md R418, R442). -/
structure Boundary where
  host : List HostAction
  request : Option IrqLine
  deriving DecidableEq, Repr

/-- The status a step returns (60_exceptions.md R407).  A message is its text, which the spec leaves open (log 17), and
for `failure` the backtrace address that the message carries (R448; log 9). -/
inductive Status where
  | cont
  | paused
  | success (message : String)
  | failure (message : String) (backtrace : Int)
  deriving DecidableEq, Repr

/-- What a step returns: its status and its cycle count (60_exceptions.md R407). -/
structure Report where
  status : Status
  cycles : Nat
  deriving DecidableEq, Repr

/-- The state of the machine. -/
structure State where
  /-- A, B, C, D, E, H, L (10_state.md R30). -/
  regs : Regs
  /-- S, Z, AC, P, CY (10_state.md R37). -/
  flags : Flags
  /-- SP (10_state.md R33). -/
  sp : Word
  /-- PC (10_state.md R34). -/
  pc : Word
  /-- INTE (10_state.md R35). -/
  inte : Bool
  /-- The halted flag (10_state.md R36). -/
  halted : Bool
  /-- The 64 KiB memory (20_memory.md R90). -/
  mem : Memory
  /-- The port devices and the pause flag (60_exceptions.md R408, R430). -/
  ports : Ports
  /-- The frame scheduler's count (60_exceptions.md R420, R446). -/
  frame : Frame
  /-- What the last step returned (60_exceptions.md R407). -/
  report : Report
  /-- What the host and the environment do at the coming boundaries, the next one first; an empty list stands for a
  host that does nothing and no request (DESIGN CHOICE, log 6). -/
  env : List Boundary
  /-- How many free values have been drawn: the model's own count, which makes each message a fresh free value
  (log 17). -/
  draws : Nat
  /-- The parameters (00_scope.md R10); no step changes them. -/
  cfg : Config
  deriving DecidableEq, Repr

/-- The fatal conditions (60_exceptions.md R400 to R403).  Each is the spec's own: the run ends and the step changes
nothing. -/
inductive Fault where
  /-- `IllegalOpcode`, code 1 (R401): the opcode byte and the PC it was fetched at.  Raised by the fetch of an opcode
  in UNIMPLEMENTED and by the meanings of the twelve illegal rows.  Safe: the spec's decoder stops there too (D2). -/
  | illegalOpcode (opcode : Byte) (pc : Word)
  /-- `UnsupportedInPort`, code 2 (R402): the port number.  Raised by IN of a port other than 1, 2 and 3 (R439).
  Safe: the spec stops there too. -/
  | unsupportedInPort (port : Byte)
  /-- `AddressOutOfRange`, code 3 (R403): the address past either end, as an integer, and the PC.  Raised by the
  operand fetch, LHLD and SHLD under `DATA_ADDR_POLICY = Fault`, and by stack accesses and interrupt entry under
  `STACK_ADDR_POLICY = Fault`.  Safe: the spec stops there too (D9, D10). -/
  | addressOutOfRange (addr : Int) (pc : Word)
  deriving DecidableEq, Repr

/-- What the model does not run. -/
inductive Refusal where
  /-- An instruction without a meaning: none is left, no arm of exec raises it.  Safe. -/
  | notModelled (mnemonic : String)
  /-- Raised by a step from a state whose last step returned Success or Failure: the run has ended and no step follows
  (60_exceptions.md R448; 92 D27).  Safe. -/
  | runEnded
  /-- Raised by `boot` for an image with offset + length > 65536 (70_reset_and_hazards.md R501; 92 D29).  Safe. -/
  | imageDoesNotFit (offset length : Nat)
  deriving DecidableEq, Repr

/-- The machine right after reset (10_state.md R49; 70_reset_and_hazards.md R500; 60_exceptions.md R443) at the
defaults of 00_scope.md R10.  PC, INTE, halted and the platform state are the spec's values.  The general registers,
SP and the flags are `RESET_REGS`, which the spec leaves open: zero, DESIGN CHOICE (log 1, unsafe).  Memory lists
nothing (log 2).  `report` and `frame.returned` stand for steps and frames that have not been (log 7).  The environment
of a run is open (60_exceptions.md R418; 70_reset_and_hazards.md R513); `env := []`, no request and no host action ever,
is a DESIGN CHOICE (log 18, unsafe), and `boot` takes any other.  `draws := 0` is a DESIGN CHOICE (log 17). -/
def State.reset : State where
  regs := { b := 0, c := 0, d := 0, e := 0, h := 0, l := 0, a := 0 }
  flags := { s := false, z := false, ac := false, p := false, cy := false }
  sp := 0x0000
  pc := 0x0000
  inte := false
  halted := false
  mem := []
  ports := { shiftValue := 0x0000, shiftOffset := 0, in1 := 0x08, in2 := 0x00, out3 := 0x00, out5 := 0x00,
             paused := false }
  frame := { cycles := 0, half := .first, returned := 0 }
  report := { status := .cont, cycles := 0 }
  env := []
  draws := 0
  cfg := Config.default

end Sys2Proof.Machine
end

