-- ==== Sys2Proof/Machine/Flags.lean ====
section
/-! DEFINITION. The ALU and flag helpers of 10_state.md R42, R43 and R50 to R66, as functions of the operands and the
flags.  Sums and differences are on unbounded integers and are narrowed at the end (R11, R64). -/

namespace Sys2Proof.Machine

/-- The number of one bits of a byte. -/
def onesOf (v : Byte) : Nat := ((List.range 8).filter fun i => v.getLsbD i).length

/-- `parity(v)`: true when the number of one bits is even (R50). -/
def parity (v : Byte) : Bool := onesOf v % 2 == 0

/-- `setSZP(r)` (R51). -/
def setSZP (r : Byte) (f : Flags) : Flags :=
  { f with s := r.getLsbD 7, z := r == 0, p := parity r }

/-- `set_arithmetic_flags(v)` for an unbounded value (R52); it leaves AC. -/
def setArithmeticFlags (v : Int) (f : Flags) : Flags :=
  { setSZP (lowByte v) f with cy := decide (v < 0 ∨ 255 < v) }

/-- `set_logic_flags(v)` (R53); it leaves AC. -/
def setLogicFlags (v : Byte) (f : Flags) : Flags :=
  { setSZP v f with cy := false }

/-- `alu_add(a, b, cin)` (R54): the result and the flags. -/
def aluAdd (a b : Byte) (cin : Bool) (f : Flags) : Byte × Flags :=
  let sum := a.toNat + b.toNat + cin.toNat
  (lowByte sum,
   { setArithmeticFlags sum f with ac := decide (0x0F < a.toNat % 16 + b.toNat % 16 + cin.toNat) })

/-- `alu_sub(a, b, bin)` (R55): AC is the carry out of bit 3 of `a + ~b + (1 - bin)`. -/
def aluSub (a b : Byte) (bin : Bool) (f : Flags) : Byte × Flags :=
  let diff : Int := a.toNat - b.toNat - bin.toNat
  (lowByte diff,
   { setArithmeticFlags diff f with
     ac := decide (0x0F < a.toNat % 16 + (~~~b).toNat % 16 + (1 - bin.toNat)) })

/-- `alu_and(a, b)` (R56): AC is bit 3 of `a | b`. -/
def aluAnd (a b : Byte) (f : Flags) : Byte × Flags :=
  (a &&& b, { setLogicFlags (a &&& b) f with ac := (a ||| b).getLsbD 3 })

/-- `alu_xor(a, b)` (R57). -/
def aluXor (a b : Byte) (f : Flags) : Byte × Flags :=
  (a ^^^ b, { setLogicFlags (a ^^^ b) f with ac := false })

/-- `alu_or(a, b)` (R58). -/
def aluOr (a b : Byte) (f : Flags) : Byte × Flags :=
  (a ||| b, { setLogicFlags (a ||| b) f with ac := false })

/-- `alu_cmp(a, b)` (R59): the flags of `a - b`, and A as it was. -/
def aluCmp (a b : Byte) (f : Flags) : Byte × Flags :=
  (a, (aluSub a b false f).2)

/-- The ALU group of R128: the new A and the new flags.  ADC takes CY as the carry in, SBB as the borrow in. -/
def aluOp (op : AluOp) (a b : Byte) (f : Flags) : Byte × Flags :=
  match op with
  | .add => aluAdd a b false f
  | .adc => aluAdd a b f.cy f
  | .sub => aluSub a b false f
  | .sbb => aluSub a b f.cy f
  | .ana => aluAnd a b f
  | .xra => aluXor a b f
  | .ora => aluOr a b f
  | .cmp => aluCmp a b f

/-- `alu_inr(v)` (R60): CY unchanged. -/
def aluInr (v : Byte) (f : Flags) : Byte × Flags :=
  (v + 1, { setSZP (v + 1) f with ac := decide (0x0F < v.toNat % 16 + 1) })

/-- `alu_dcr(v)` (R61): 0x00 to 0xFF sets CY and AC, as the reference does (90 C2); any other operand leaves CY. -/
def aluDcr (v : Byte) (f : Flags) : Byte × Flags :=
  let r := v - 1
  if v = 0 then
    (r, { setSZP r f with cy := true, ac := true })
  else
    (r, { setSZP r f with ac := decide (r.toNat % 16 ≠ 0x0F) })

/-- The correction DAA adds to A (R63). -/
def daaCorrection (a : Byte) (f : Flags) : Nat :=
  let lo := a.toNat % 16
  let hi := a.toNat / 16
  (if 9 < lo ∨ f.ac = true then 0x06 else 0) +
  (if 9 < hi ∨ f.cy = true ∨ (9 ≤ hi ∧ 9 < lo) then 0x60 else 0)

/-- `alu_daa()` (R63), for either value of `DAA_CARRY`. -/
def aluDaa (mode : DaaCarry) (a : Byte) (f : Flags) : Byte × Flags :=
  let corr := daaCorrection a f
  let s : Nat :=
    match mode with
    | .wide => f.cy.toNat * 256 + a.toNat + corr
    | .narrow => a.toNat + corr
  (lowByte s, { setArithmeticFlags s f with ac := decide (0x0F < a.toNat % 16 + corr % 16) })

/-- `alu_add_hl(rpv)` (R62): the new HL and the flags, of which CY alone is written. -/
def aluAddHl (hl v : Word) (f : Flags) : Word × Flags :=
  let s := hl.toNat + v.toNat
  (lowWord s, { f with cy := decide (0xFFFF < s) })

/-- `inc16(v)` (R65). -/
def inc16 (v : Word) : Word := v + 1

/-- `dec16(v)` (R65). -/
def dec16 (v : Word) : Word := v - 1

/-- `cond(ccc)` (R66). -/
def condHolds (cnd : Cond) (f : Flags) : Bool :=
  match cnd with
  | .nz => !f.z
  | .z => f.z
  | .nc => !f.cy
  | .c => f.cy
  | .po => !f.p
  | .pe => f.p
  | .p => !f.s
  | .m => f.s

/-- RLC (45_rotate_carry_daa.md R300): the new A and CY. -/
def rotateLeft (a : Byte) : Byte × Bool :=
  ((a <<< 1) ||| BitVec.ofNat 8 (a.getLsbD 7).toNat, a.getLsbD 7)

/-- RRC (R301). -/
def rotateRight (a : Byte) : Byte × Bool :=
  ((a >>> 1) ||| BitVec.ofNat 8 ((a.getLsbD 0).toNat * 128), a.getLsbD 0)

/-- RAL (R302): through the old carry. -/
def rotateLeftThroughCarry (a : Byte) (cy : Bool) : Byte × Bool :=
  ((a <<< 1) ||| BitVec.ofNat 8 cy.toNat, a.getLsbD 7)

/-- RAR (R303): through the old carry. -/
def rotateRightThroughCarry (a : Byte) (cy : Bool) : Byte × Bool :=
  ((a >>> 1) ||| BitVec.ofNat 8 (cy.toNat * 128), a.getLsbD 0)

/-- `flagByte()`: S Z 0 AC 0 P 1 CY (R42). -/
def flagByte (f : Flags) : Byte :=
  BitVec.ofNat 8
    (f.s.toNat * 128 + f.z.toNat * 64 + f.ac.toNat * 16 + f.p.toNat * 4 + 2 + f.cy.toNat)

/-- `setFlagByte(f)`: bits 5, 3 and 1 are ignored (R43). -/
def flagsOfByte (v : Byte) : Flags where
  s := v.getLsbD 7
  z := v.getLsbD 6
  ac := v.getLsbD 4
  p := v.getLsbD 2
  cy := v.getLsbD 0

end Sys2Proof.Machine
end

