-- ==== Sys2Proof/Machine/Cycles.lean ====
section
/-! DEFINITION. The cycles a step reports (70_reset_and_hazards.md R520 to R522): the Intel 8080 table as the default of
the parameter CYCLE_TABLE, and the table a configuration gives. -/

namespace Sys2Proof.Machine

/-- The rows of R520 outside 0x40..0xBF: opcodes, cycles when not taken, cycles when taken.  Only Ccc and Rcc differ
(R521). -/
def cycleRows : List (List Nat × Nat × Nat) :=
  [([0x00], 4, 4),
   ([0x01, 0x11, 0x21, 0x31], 10, 10),
   ([0x02, 0x12], 7, 7),
   ([0x0A, 0x1A], 7, 7),
   ([0x03, 0x13, 0x23, 0x33], 5, 5),
   ([0x0B, 0x1B, 0x2B, 0x3B], 5, 5),
   ([0x09, 0x19, 0x29, 0x39], 10, 10),
   ([0x04, 0x0C, 0x14, 0x1C, 0x24, 0x2C, 0x3C], 5, 5),
   ([0x05, 0x0D, 0x15, 0x1D, 0x25, 0x2D, 0x3D], 5, 5),
   ([0x34, 0x35], 10, 10),
   ([0x06, 0x0E, 0x16, 0x1E, 0x26, 0x2E, 0x3E], 7, 7),
   ([0x36], 10, 10),
   ([0x07, 0x0F, 0x17, 0x1F], 4, 4),
   ([0x22, 0x2A], 16, 16),
   ([0x32, 0x3A], 13, 13),
   ([0x27, 0x2F, 0x37, 0x3F], 4, 4)] ++
  [([0xC6, 0xCE, 0xD6, 0xDE, 0xE6, 0xEE, 0xF6, 0xFE], 7, 7),
   ([0xC3], 10, 10),
   ([0xC2, 0xCA, 0xD2, 0xDA, 0xE2, 0xEA, 0xF2, 0xFA], 10, 10),
   ([0xCD], 17, 17),
   ([0xC4, 0xCC, 0xD4, 0xDC, 0xE4, 0xEC, 0xF4, 0xFC], 11, 17),
   ([0xC9], 10, 10),
   ([0xC0, 0xC8, 0xD0, 0xD8, 0xE0, 0xE8, 0xF0, 0xF8], 5, 11),
   ([0xC7, 0xCF, 0xD7, 0xDF, 0xE7, 0xEF, 0xF7, 0xFF], 11, 11),
   ([0xC5, 0xD5, 0xE5, 0xF5], 11, 11),
   ([0xC1, 0xD1, 0xE1, 0xF1], 10, 10),
   ([0xD3, 0xDB], 10, 10),
   ([0xE3], 18, 18),
   ([0xEB], 4, 4),
   ([0xE9], 5, 5),
   ([0xF9], 5, 5),
   ([0xF3, 0xFB], 4, 4)]

/-- The default of CYCLE_TABLE (R520).  The twelve illegal byte values have no entry there and count 0 here; they
fault before a count is needed. -/
def defaultCycles (op : Nat) (taken : Bool) : Nat :=
  if op / 64 = 1 then
    if op = 0x76 then 7 else if op % 8 = 6 ∨ op / 8 % 8 = 6 then 7 else 5
  else if op / 64 = 2 then
    if op % 8 = 6 then 7 else 4
  else
    match cycleRows.find? fun row => row.1.contains op with
    | some row => if taken then row.2.2 else row.2.1
    | none => 0

/-- `CYCLE_TABLE(op, taken)` of a configuration: its own entry for the opcode, else the default (R10, R520). -/
def cycleTable (cfg : Config) (op : Byte) (taken : Bool) : Nat :=
  match cfg.cycleEntries.find? fun e => e.opcode == op with
  | some e => if taken then e.taken else e.notTaken
  | none => defaultCycles op.toNat taken

end Sys2Proof.Machine
end

