-- ==== Sys2Proof/Machine/Memory.lean ====
section
/-! DEFINITION. The byte memory (20_memory.md R90 to R92): what an unlisted address reads as, reading and writing one
byte, and the canonical form that makes equal memories equal data. -/

namespace Sys2Proof.Machine

/-- What an address that memory does not list reads as.  The spec leaves the contents outside the loaded image open
(`MEM_INIT`, D24); 0x00 is a DESIGN CHOICE (log 2, unsafe). -/
def Memory.unlisted : Byte := 0x00

/-- The byte at an address (R92). -/
def Memory.read (m : Memory) (addr : Nat) : Byte :=
  match m with
  | [] => Memory.unlisted
  | (a, v) :: rest => if a = addr then v else Memory.read rest addr

/-- A memory without any entry for an address. -/
def Memory.erase (m : Memory) (addr : Nat) : Memory :=
  m.filter fun c => c.1 != addr

/-- Puts an entry before the first entry of a higher address. -/
def Memory.insert (m : Memory) (addr : Nat) (v : Byte) : Memory :=
  match m with
  | [] => [(addr, v)]
  | c :: rest => if addr < c.1 then (addr, v) :: c :: rest else c :: Memory.insert rest addr v

/-- Stores a byte at an address (R92).  Storing what an unlisted address reads as leaves no entry. -/
def Memory.write (m : Memory) (addr : Nat) (v : Byte) : Memory :=
  if v = Memory.unlisted then Memory.erase m addr else Memory.insert (Memory.erase m addr) addr v

/-- Every entry has an address of at least `low` and below 65536, strictly above the one before it, and a byte that
an unlisted address does not read as. -/
def Memory.wfFrom (low : Nat) (m : Memory) : Bool :=
  match m with
  | [] => true
  | (a, v) :: rest => decide (low ≤ a) && decide (a < 65536) && v != Memory.unlisted && Memory.wfFrom (a + 1) rest

/-- The canonical form of a memory. -/
def Memory.wf (m : Memory) : Bool := Memory.wfFrom 0 m

/-- Stores bytes at rising addresses from `addr` on (70_reset_and_hazards.md R501). -/
def Memory.writeBytes (m : Memory) (addr : Nat) (bytes : List Byte) : Memory :=
  match bytes with
  | [] => m
  | v :: rest => Memory.writeBytes (Memory.write m addr v) (addr + 1) rest

end Sys2Proof.Machine
end

