-- ==== Sys2Proof/Machine/Ops.lean ====
section
/-! DEFINITION. The shared operations of the meanings: byte accesses, the address rules, the stack primitives, the
sequencer, interrupt entry and the return from it, and the self-test intercept. -/

namespace Sys2Proof.Machine

/-- What a step or a part of one answers. -/
abbrev Res := Host.Outcome State Fault Refusal

/-- Goes on from a next state; a fault or a refusal ends the step. -/
def chain (r : Res) (k : State → Res) : Res :=
  match r with
  | .next s => k s
  | .fault x => .fault x
  | .refused x => .refused x

/-! ## Byte accesses (20_memory.md R92) -/

/-- `MemRead(addr, 1)`. -/
def State.readByte (s : State) (addr : Word) : Byte := s.mem.read addr.toNat

/-- `MemWrite(addr, 1, v)`. -/
def State.writeByte (s : State) (addr : Word) (v : Byte) : State :=
  { s with mem := s.mem.write addr.toNat v }

/-! ## The address rules (20_memory.md R93, R94) -/

/-- base + k, by a policy when it falls outside 0..0xFFFF: the wrapped address, or the address past the end. -/
def offsetAddr (policy : AddrPolicy) (base : Word) (k : Int) : Except Int Word :=
  let n : Int := base.toNat + k
  if 0 ≤ n ∧ n ≤ 0xFFFF then .ok (lowWord n)
  else
    match policy with
    | .wrap => .ok (lowWord n)
    | .fault => .error n

/-- `dataAddr(base, k)` (R93). -/
def dataAddr (cfg : Config) (base : Word) (k : Int) : Except Int Word :=
  offsetAddr cfg.dataAddrPolicy base k

/-- `stackAddr(sp, k)` (R94). -/
def stackAddr (cfg : Config) (sp : Word) (k : Int) : Except Int Word :=
  offsetAddr cfg.stackAddrPolicy sp k

/-- Goes on with an address, or raises AddressOutOfRange with the address past the end and the PC
(60_exceptions.md R403). -/
def withAddr (pc : Word) (r : Except Int Word) (k : Word → Res) : Res :=
  match r with
  | .ok a => k a
  | .error n => .fault (.addressOutOfRange n pc)

/-! ## The stack primitives (10_state.md R44, R45) -/

/-- `push16(v)`: high byte at SP-1, low byte at SP-2, then SP goes down by 2 (R44). -/
def push16 (v : Word) (s : State) : Res :=
  withAddr s.pc (stackAddr s.cfg s.sp (-1)) fun hiAddr =>
    withAddr s.pc (stackAddr s.cfg s.sp (-2)) fun loAddr =>
      .next { (s.writeByte hiAddr (hi8 v)).writeByte loAddr (lo8 v) with sp := s.sp - 2 }

/-- `pop16()`: low byte at SP, high byte at SP+1, then SP goes up by 2 (R45); goes on with the value. -/
def pop16 (s : State) (k : Word → State → Res) : Res :=
  withAddr s.pc (stackAddr s.cfg s.sp 0) fun loAddr =>
    withAddr s.pc (stackAddr s.cfg s.sp 1) fun hiAddr =>
      k (pair (s.readByte hiAddr) (s.readByte loAddr)) { s with sp := s.sp + 2 }

/-! ## The sequencer (30_encoding.md R122, R123) -/

/-- What an ordinary step returns (R121, R407). -/
def ordinaryReport (cfg : Config) (op : Byte) (taken : Bool) : Report :=
  { status := .cont, cycles := cycleTable cfg op taken }

/-- A state with another result of the step. -/
def State.setReport (s : State) (r : Report) : State := { s with report := r }

/-- The end of an instruction that has not set PC: PC goes on by the length (R122), and the step reports Continue and
the opcode's cycles (R123). -/
def advance (op : Byte) (len : Word) (s : State) : Res :=
  .next { s with pc := s.pc + len, report := ordinaryReport s.cfg op false }

/-- The end of an instruction that has set PC (R122), with the step's `taken` mark (R121). -/
def jumpTo (op : Byte) (taken : Bool) (target : Word) (s : State) : Res :=
  .next { s with pc := target, report := ordinaryReport s.cfg op taken }

/-- `call` (46_branch.md): pushes the return address and goes to the target. -/
def callTo (op : Byte) (taken : Bool) (ret target : Word) (s : State) : Res :=
  chain (push16 ret s) (jumpTo op taken target)

/-- `ret` (46_branch.md R324): pops PC.  It is the return from an interrupt too, and restores nothing but PC and SP
(60_exceptions.md R415). -/
def popPc (op : Byte) (taken : Bool) (s : State) : Res :=
  pop16 s (jumpTo op taken)

/-! ## Interrupt entry (60_exceptions.md R411 to R414) -/

/-- The line's number n. -/
def IrqLine.number (n : IrqLine) : Nat :=
  match n with
  | .line1 => 1
  | .line2 => 2

/-- `n << 3`: 0x0008 for line 1, 0x0010 for line 2 (R412, R413). -/
def IrqLine.vector (n : IrqLine) : Word := BitVec.ofNat 16 (n.number * 8)

/-- `interrupt(n)`: a request on line n at a boundary.  With INTE = 0 it is lost (R411); with INTE = 1 it clears INTE
and halted, pushes PC and goes to the line's vector (R412).  When the push faults, the PC that AddressOutOfRange records
is the one the entry would have pushed, the next instruction's: R403 records the PC of the instruction, and between two
instructions there is none (DESIGN CHOICE, log 16). -/
def interrupt (n : IrqLine) (s : State) : Res :=
  if s.inte then
    chain (push16 s.pc { s with inte := false, halted := false }) fun t => .next { t with pc := n.vector }
  else .next s

/-! ## The fatal conditions' codes -/

/-- The code of a fatal condition: 1, 2 and 3 (60_exceptions.md R401 to R403; 92 D18). -/
def Fault.code (x : Fault) : Nat :=
  match x with
  | .illegalOpcode _ _ => 1
  | .unsupportedInPort _ => 2
  | .addressOutOfRange _ _ => 3

/-! ## The self-test intercept (60_exceptions.md R448) -/

/-- The text of the next message, a free value (log 17). -/
def State.message (s : State) : String := Config.freeMessage s.draws

/-- One more free value has been drawn (log 17). -/
def State.countDraw (s : State) : State := { s with draws := s.draws + 1 }

/-- The address a Failure reports: the return address on the stack less 6.  The stack bytes are read with SP+1 taken
modulo 2^16: R403 names no fault of the intercept (DEDUCED, log 9). -/
def harnessBacktrace (s : State) : Int :=
  ((pair (s.readByte (s.sp + 1)) (s.readByte s.sp)).toNat : Int) - 6

/-- The status with which CALL `target` ends the run instead of calling, when TEST_HARNESS is true, the target is 5,
C = 0x09 and DE is one of the two message addresses (R448).  The message is a free value and its backtrace address. -/
def harnessStatus (target : Word) (s : State) : Option Status :=
  if s.cfg.testHarness = true ∧ target = 0x0005 ∧ s.regs.c = 0x09 then
    if pair s.regs.d s.regs.e = 0x0174 then some (.success s.message)
    else if pair s.regs.d s.regs.e = 0x018B then some (.failure s.message (harnessBacktrace s))
    else none
  else none

end Sys2Proof.Machine
end

