-- ==== Sys2Proof/Machine/Operands.lean ====
section
/-! DEFINITION. The operand forms: registers, register pairs, the memory byte at HL and immediates (10_state.md R30 to
R32; 30_encoding.md R125, R126, R135). -/

namespace Sys2Proof.Machine

/-- `reg[r]` (R125). -/
def Regs.get (g : Regs) (r : Reg) : Byte :=
  match r with
  | .b => g.b
  | .c => g.c
  | .d => g.d
  | .e => g.e
  | .h => g.h
  | .l => g.l
  | .a => g.a

/-- `reg[r] <- v` (R125). -/
def Regs.set (g : Regs) (r : Reg) (v : Byte) : Regs :=
  match r with
  | .b => { g with b := v }
  | .c => { g with c := v }
  | .d => { g with d := v }
  | .e => { g with e := v }
  | .h => { g with h := v }
  | .l => { g with l := v }
  | .a => { g with a := v }

/-- BC, DE and HL as 16-bit values (R31). -/
def Regs.bc (g : Regs) : Word := pair g.b g.c

/-- DE (R31). -/
def Regs.de (g : Regs) : Word := pair g.d g.e

/-- HL, the address of the operand `M` (R31, R32). -/
def Regs.hl (g : Regs) : Word := pair g.h g.l

/-- A write of BC: the high byte to the first register, the low byte to the second (R31). -/
def Regs.setBc (g : Regs) (v : Word) : Regs := { g with b := hi8 v, c := lo8 v }

/-- A write of DE (R31). -/
def Regs.setDe (g : Regs) (v : Word) : Regs := { g with d := hi8 v, e := lo8 v }

/-- A write of HL (R31). -/
def Regs.setHl (g : Regs) (v : Word) : Regs := { g with h := hi8 v, l := lo8 v }

/-- `reg[r]` of a state. -/
def State.reg (s : State) (r : Reg) : Byte := s.regs.get r

/-- A state with `reg[r] <- v`. -/
def State.setReg (s : State) (r : Reg) (v : Byte) : State := { s with regs := s.regs.set r v }

/-- `rp[p]` (R126). -/
def State.pairVal (s : State) (p : Pair) : Word :=
  match p with
  | .bc => s.regs.bc
  | .de => s.regs.de
  | .hl => s.regs.hl
  | .sp => s.sp

/-- A state with `rp[p] <- v` (R126). -/
def State.setPair (s : State) (p : Pair) (v : Word) : State :=
  match p with
  | .bc => { s with regs := s.regs.setBc v }
  | .de => { s with regs := s.regs.setDe v }
  | .hl => { s with regs := s.regs.setHl v }
  | .sp => { s with sp := v }

/-- The value of a pair that PUSH stores (47_stack_exchange.md R350). -/
def Regs.stackPair (g : Regs) (p : StackPair) : Word :=
  match p with
  | .bc => g.bc
  | .de => g.de
  | .hl => g.hl

/-- The registers after POP of a pair (47_stack_exchange.md R352). -/
def Regs.setStackPair (g : Regs) (p : StackPair) (v : Word) : Regs :=
  match p with
  | .bc => g.setBc v
  | .de => g.setDe v
  | .hl => g.setHl v

/-- The address in the pair of LDAX and STAX (R126). -/
def Regs.addrPair (g : Regs) (p : AddrPair) : Word :=
  match p with
  | .bc => g.bc
  | .de => g.de

/-- The memory byte `M` (R32). -/
def State.readM (s : State) : Byte := s.readByte s.regs.hl

/-- A write of `M` (R32). -/
def State.writeM (s : State) (v : Byte) : State := s.writeByte s.regs.hl v

/-- The value of an 8-bit source operand. -/
def State.src (s : State) (x : Src) : Byte :=
  match x with
  | .reg r => s.reg r
  | .mem => s.readM
  | .imm d => d

/-- `pair(A, flagByte())`, the PSW (R42). -/
def State.psw (s : State) : Word := pair s.regs.a (flagByte s.flags)

end Sys2Proof.Machine
end

