-- ==== Sys2Proof/Machine/Alu.lean ====
section
/-! DEFINITION. What the arithmetic, logic and DAA meanings share: A and the flags take the result of a helper of
Flags.lean. -/

namespace Sys2Proof.Machine

/-- Writes A and the flags and ends the instruction. -/
def writeAlu (op : Byte) (len : Word) (r : Byte × Flags) (s : State) : Res :=
  advance op len { s.setReg .a r.1 with flags := r.2 }

/-- An operation of the ALU group on A and a source operand (43_arithmetic.md, 44_logic_compare.md). -/
def aluStep (op : Byte) (len : Word) (k : AluOp) (x : Src) (s : State) : Res :=
  writeAlu op len (aluOp k s.regs.a (s.src x) s.flags) s

end Sys2Proof.Machine
end

