-- ==== Sys2Proof/Machine/Arith.lean ====
section
/-! DEFINITION. 8-bit arithmetic (43_arithmetic.md R250 to R261): ADD, ADC, SUB, SBB and the immediates ADI, ACI, SUI, SBI. -/

namespace Sys2Proof.Machine

/-- ADD B (R250). -/
def execAddB (s : State) : Res := aluStep 0x80 1 .add (.reg .b) s

/-- ADD C (R250). -/
def execAddC (s : State) : Res := aluStep 0x81 1 .add (.reg .c) s

/-- ADD D (R250). -/
def execAddD (s : State) : Res := aluStep 0x82 1 .add (.reg .d) s

/-- ADD E (R250). -/
def execAddE (s : State) : Res := aluStep 0x83 1 .add (.reg .e) s

/-- ADD H (R250). -/
def execAddH (s : State) : Res := aluStep 0x84 1 .add (.reg .h) s

/-- ADD L (R250). -/
def execAddL (s : State) : Res := aluStep 0x85 1 .add (.reg .l) s

/-- ADD M (R251). -/
def execAddM (s : State) : Res := aluStep 0x86 1 .add .mem s

/-- ADD A (R250). -/
def execAddA (s : State) : Res := aluStep 0x87 1 .add (.reg .a) s

/-- ADC B (R253). -/
def execAdcB (s : State) : Res := aluStep 0x88 1 .adc (.reg .b) s

/-- ADC C (R253). -/
def execAdcC (s : State) : Res := aluStep 0x89 1 .adc (.reg .c) s

/-- ADC D (R253). -/
def execAdcD (s : State) : Res := aluStep 0x8A 1 .adc (.reg .d) s

/-- ADC E (R253). -/
def execAdcE (s : State) : Res := aluStep 0x8B 1 .adc (.reg .e) s

/-- ADC H (R253). -/
def execAdcH (s : State) : Res := aluStep 0x8C 1 .adc (.reg .h) s

/-- ADC L (R253). -/
def execAdcL (s : State) : Res := aluStep 0x8D 1 .adc (.reg .l) s

/-- ADC M (R254). -/
def execAdcM (s : State) : Res := aluStep 0x8E 1 .adc .mem s

/-- ADC A (R253). -/
def execAdcA (s : State) : Res := aluStep 0x8F 1 .adc (.reg .a) s

/-- SUB B (R256). -/
def execSubB (s : State) : Res := aluStep 0x90 1 .sub (.reg .b) s

/-- SUB C (R256). -/
def execSubC (s : State) : Res := aluStep 0x91 1 .sub (.reg .c) s

/-- SUB D (R256). -/
def execSubD (s : State) : Res := aluStep 0x92 1 .sub (.reg .d) s

/-- SUB E (R256). -/
def execSubE (s : State) : Res := aluStep 0x93 1 .sub (.reg .e) s

/-- SUB H (R256). -/
def execSubH (s : State) : Res := aluStep 0x94 1 .sub (.reg .h) s

/-- SUB L (R256). -/
def execSubL (s : State) : Res := aluStep 0x95 1 .sub (.reg .l) s

/-- SUB M (R257). -/
def execSubM (s : State) : Res := aluStep 0x96 1 .sub .mem s

/-- SUB A (R256). -/
def execSubA (s : State) : Res := aluStep 0x97 1 .sub (.reg .a) s

/-- SBB B (R259). -/
def execSbbB (s : State) : Res := aluStep 0x98 1 .sbb (.reg .b) s

/-- SBB C (R259). -/
def execSbbC (s : State) : Res := aluStep 0x99 1 .sbb (.reg .c) s

/-- SBB D (R259). -/
def execSbbD (s : State) : Res := aluStep 0x9A 1 .sbb (.reg .d) s

/-- SBB E (R259). -/
def execSbbE (s : State) : Res := aluStep 0x9B 1 .sbb (.reg .e) s

/-- SBB H (R259). -/
def execSbbH (s : State) : Res := aluStep 0x9C 1 .sbb (.reg .h) s

/-- SBB L (R259). -/
def execSbbL (s : State) : Res := aluStep 0x9D 1 .sbb (.reg .l) s

/-- SBB M (R260). -/
def execSbbM (s : State) : Res := aluStep 0x9E 1 .sbb .mem s

/-- SBB A (R259). -/
def execSbbA (s : State) : Res := aluStep 0x9F 1 .sbb (.reg .a) s

/-- ADI data8 (R252). -/
def execAdi (d : Byte) (s : State) : Res := aluStep 0xC6 2 .add (.imm d) s

/-- ACI data8 (R255). -/
def execAci (d : Byte) (s : State) : Res := aluStep 0xCE 2 .adc (.imm d) s

/-- SUI data8 (R258). -/
def execSui (d : Byte) (s : State) : Res := aluStep 0xD6 2 .sub (.imm d) s

/-- SBI data8 (R261). -/
def execSbi (d : Byte) (s : State) : Res := aluStep 0xDE 2 .sbb (.imm d) s

end Sys2Proof.Machine
end

