-- ==== Sys2Proof/Machine/Branch.lean ====
section
/-! DEFINITION. Branch, call, return and restart (46_branch.md R320 to R327): JMP, Jcc, CALL, Ccc, RET, Rcc, RST, PCHL. -/

namespace Sys2Proof.Machine

/-- Jcc (R321): not taken, the sequencer moves on by 3. -/
def jumpIf (op : Byte) (cnd : Cond) (target : Word) (s : State) : Res :=
  if condHolds cnd s.flags then jumpTo op true target s else advance op 3 s

/-- Ccc (R323). -/
def callIf (op : Byte) (cnd : Cond) (target : Word) (s : State) : Res :=
  if condHolds cnd s.flags then callTo op true (s.pc + 3) target s else advance op 3 s

/-- Rcc (R325). -/
def returnIf (op : Byte) (cnd : Cond) (s : State) : Res :=
  if condHolds cnd s.flags then popPc op true s else advance op 1 s

/-- RNZ (R325). -/
def execRnz (s : State) : Res := returnIf 0xC0 .nz s

/-- JNZ addr16 (R321). -/
def execJnz (w : Word) (s : State) : Res := jumpIf 0xC2 .nz w s

/-- JMP addr16 (R320). -/
def execJmp (w : Word) (s : State) : Res := jumpTo 0xC3 false w s

/-- CNZ addr16 (R323). -/
def execCnz (w : Word) (s : State) : Res := callIf 0xC4 .nz w s

/-- RST 0 (R326). -/
def execRst0 (s : State) : Res := callTo 0xC7 false (s.pc + 1) 0x0000 s

/-- RZ (R325). -/
def execRz (s : State) : Res := returnIf 0xC8 .z s

/-- RET (R324). -/
def execRet (s : State) : Res := popPc 0xC9 false s

/-- JZ addr16 (R321). -/
def execJz (w : Word) (s : State) : Res := jumpIf 0xCA .z w s

/-- CZ addr16 (R323). -/
def execCz (w : Word) (s : State) : Res := callIf 0xCC .z w s

/-- CALL addr16 (R322): the self-test intercept is offered the call first (60_exceptions.md R448); it ends the run with
its status and changes nothing else of the spec's (D26); the message it gives is counted as drawn. -/
def execCall (w : Word) (s : State) : Res :=
  match harnessStatus w s with
  | some status => .next (s.countDraw.setReport { status := status, cycles := cycleTable s.cfg 0xCD false })
  | none => callTo 0xCD false (s.pc + 3) w s

/-- RST 1 (R326). -/
def execRst1 (s : State) : Res := callTo 0xCF false (s.pc + 1) 0x0008 s

/-- RNC (R325). -/
def execRnc (s : State) : Res := returnIf 0xD0 .nc s

/-- JNC addr16 (R321). -/
def execJnc (w : Word) (s : State) : Res := jumpIf 0xD2 .nc w s

/-- CNC addr16 (R323). -/
def execCnc (w : Word) (s : State) : Res := callIf 0xD4 .nc w s

/-- RST 2 (R326). -/
def execRst2 (s : State) : Res := callTo 0xD7 false (s.pc + 1) 0x0010 s

/-- RC (R325). -/
def execRc (s : State) : Res := returnIf 0xD8 .c s

/-- JC addr16 (R321). -/
def execJc (w : Word) (s : State) : Res := jumpIf 0xDA .c w s

/-- CC addr16 (R323). -/
def execCc (w : Word) (s : State) : Res := callIf 0xDC .c w s

/-- RST 3 (R326). -/
def execRst3 (s : State) : Res := callTo 0xDF false (s.pc + 1) 0x0018 s

/-- RPO (R325). -/
def execRpo (s : State) : Res := returnIf 0xE0 .po s

/-- JPO addr16 (R321). -/
def execJpo (w : Word) (s : State) : Res := jumpIf 0xE2 .po w s

/-- CPO addr16 (R323). -/
def execCpo (w : Word) (s : State) : Res := callIf 0xE4 .po w s

/-- RST 4 (R326). -/
def execRst4 (s : State) : Res := callTo 0xE7 false (s.pc + 1) 0x0020 s

/-- RPE (R325). -/
def execRpe (s : State) : Res := returnIf 0xE8 .pe s

/-- PCHL (R327). -/
def execPchl (s : State) : Res := jumpTo 0xE9 false s.regs.hl s

/-- JPE addr16 (R321). -/
def execJpe (w : Word) (s : State) : Res := jumpIf 0xEA .pe w s

/-- CPE addr16 (R323). -/
def execCpe (w : Word) (s : State) : Res := callIf 0xEC .pe w s

/-- RST 5 (R326). -/
def execRst5 (s : State) : Res := callTo 0xEF false (s.pc + 1) 0x0028 s

/-- RP (R325). -/
def execRp (s : State) : Res := returnIf 0xF0 .p s

/-- JP addr16 (R321). -/
def execJp (w : Word) (s : State) : Res := jumpIf 0xF2 .p w s

/-- CP addr16 (R323). -/
def execCp (w : Word) (s : State) : Res := callIf 0xF4 .p w s

/-- RST 6 (R326). -/
def execRst6 (s : State) : Res := callTo 0xF7 false (s.pc + 1) 0x0030 s

/-- RM (R325). -/
def execRm (s : State) : Res := returnIf 0xF8 .m s

/-- JM addr16 (R321). -/
def execJm (w : Word) (s : State) : Res := jumpIf 0xFA .m w s

/-- CM addr16 (R323). -/
def execCm (w : Word) (s : State) : Res := callIf 0xFC .m w s

/-- RST 7 (R326). -/
def execRst7 (s : State) : Res := callTo 0xFF false (s.pc + 1) 0x0038 s

end Sys2Proof.Machine
end

