-- ==== Sys2Proof/Machine/Illegal.lean ====
section
/-! DEFINITION. The twelve byte values without an 8080 mnemonic (30_encoding.md R133): the fatal condition IllegalOpcode
(60_exceptions.md R401), which ends the run and changes nothing (R400). -/

namespace Sys2Proof.Machine

/-- IllegalOpcode with the opcode byte and the PC it was fetched at (R401). -/
def illegalStep (op : Byte) (s : State) : Res := .fault (.illegalOpcode op s.pc)

/-- illegal 08 (R133). -/
def execIllegal08 (s : State) : Res := illegalStep 0x08 s

/-- illegal 10 (R133). -/
def execIllegal10 (s : State) : Res := illegalStep 0x10 s

/-- illegal 18 (R133). -/
def execIllegal18 (s : State) : Res := illegalStep 0x18 s

/-- illegal 20 (R133). -/
def execIllegal20 (s : State) : Res := illegalStep 0x20 s

/-- illegal 28 (R133). -/
def execIllegal28 (s : State) : Res := illegalStep 0x28 s

/-- illegal 30 (R133). -/
def execIllegal30 (s : State) : Res := illegalStep 0x30 s

/-- illegal 38 (R133). -/
def execIllegal38 (s : State) : Res := illegalStep 0x38 s

/-- illegal CB (R133). -/
def execIllegalCB (s : State) : Res := illegalStep 0xCB s

/-- illegal D9 (R133). -/
def execIllegalD9 (s : State) : Res := illegalStep 0xD9 s

/-- illegal DD (R133). -/
def execIllegalDD (s : State) : Res := illegalStep 0xDD s

/-- illegal ED (R133). -/
def execIllegalED (s : State) : Res := illegalStep 0xED s

/-- illegal FD (R133). -/
def execIllegalFD (s : State) : Res := illegalStep 0xFD s

end Sys2Proof.Machine
end

