-- ==== Sys2Proof/Machine/IncDec.lean ====
section
/-! DEFINITION. 8-bit increment and decrement (42_inr_dcr.md R240 to R243): INR, DCR. -/

namespace Sys2Proof.Machine

/-- INR r (R240). -/
def incReg (op : Byte) (dst : Reg) (s : State) : Res :=
  let r := aluInr (s.reg dst) s.flags
  advance op 1 { s.setReg dst r.1 with flags := r.2 }

/-- INR M (R241). -/
def incM (op : Byte) (s : State) : Res :=
  let r := aluInr s.readM s.flags
  advance op 1 { s.writeM r.1 with flags := r.2 }

/-- DCR r (R242). -/
def decReg (op : Byte) (dst : Reg) (s : State) : Res :=
  let r := aluDcr (s.reg dst) s.flags
  advance op 1 { s.setReg dst r.1 with flags := r.2 }

/-- DCR M (R243). -/
def decM (op : Byte) (s : State) : Res :=
  let r := aluDcr s.readM s.flags
  advance op 1 { s.writeM r.1 with flags := r.2 }

/-- INR B (R240). -/
def execInrB (s : State) : Res := incReg 0x04 .b s

/-- DCR B (R242). -/
def execDcrB (s : State) : Res := decReg 0x05 .b s

/-- INR C (R240). -/
def execInrC (s : State) : Res := incReg 0x0C .c s

/-- DCR C (R242). -/
def execDcrC (s : State) : Res := decReg 0x0D .c s

/-- INR D (R240). -/
def execInrD (s : State) : Res := incReg 0x14 .d s

/-- DCR D (R242). -/
def execDcrD (s : State) : Res := decReg 0x15 .d s

/-- INR E (R240). -/
def execInrE (s : State) : Res := incReg 0x1C .e s

/-- DCR E (R242). -/
def execDcrE (s : State) : Res := decReg 0x1D .e s

/-- INR H (R240). -/
def execInrH (s : State) : Res := incReg 0x24 .h s

/-- DCR H (R242). -/
def execDcrH (s : State) : Res := decReg 0x25 .h s

/-- INR L (R240). -/
def execInrL (s : State) : Res := incReg 0x2C .l s

/-- DCR L (R242). -/
def execDcrL (s : State) : Res := decReg 0x2D .l s

/-- INR M (R241). -/
def execInrM (s : State) : Res := incM 0x34 s

/-- DCR M (R243). -/
def execDcrM (s : State) : Res := decM 0x35 s

/-- INR A (R240). -/
def execInrA (s : State) : Res := incReg 0x3C .a s

/-- DCR A (R242). -/
def execDcrA (s : State) : Res := decReg 0x3D .a s

end Sys2Proof.Machine
end

