-- ==== Sys2Proof/Machine/Ports.lean ====
section
/-! DEFINITION. The I/O port bus and the devices behind it (60_exceptions.md R430 to R441), and what the host does and
sees (R442; 20_memory.md R99). -/

namespace Sys2Proof.Machine

/-- `PortIn(p)` (R436 to R439): the byte, or none where the bus refuses the port.  Bit 3 of port 1 always reads 1. -/
def portIn (p : Byte) (io : Ports) : Option Byte :=
  if p = 1 then some (io.in1 ||| 0x08)
  else if p = 2 then some io.in2
  else if p = 3 then some (byteAt io.shiftValue (8 - io.shiftOffset.toNat))
  else none

/-- `PortOut(p, v)` (R431 to R435): it never refuses; port 6 and unknown ports change nothing. -/
def portOut (p v : Byte) (io : Ports) : Ports :=
  if p = 2 then { io with shiftOffset := v.extractLsb' 0 3 }
  else if p = 3 then { io with out3 := v }
  else if p = 4 then { io with shiftValue := pair v (hi8 io.shiftValue) }
  else if p = 5 then { io with out5 := v }
  else io

/-- A byte with one bit set or cleared and the others as they were (R442). -/
def withBit (v : Byte) (n : Nat) (on : Bool) : Byte :=
  if on then v ||| (1#8 <<< n) else v &&& ~~~(1#8 <<< n)

/-- The port (`true` for 1, `false` for 2) and the bit of an input (R440). -/
def Input.place (k : Input) : Bool × Nat :=
  match k with
  | .coin => (true, 0)
  | .start2 => (true, 1)
  | .start1 => (true, 2)
  | .fire1 => (true, 4)
  | .left1 => (true, 5)
  | .right1 => (true, 6)
  | .tilt => (false, 2)
  | .fire2 => (false, 4)
  | .left2 => (false, 5)
  | .right2 => (false, 6)

/-- One action of the host (R442). -/
def hostAct (act : HostAction) (io : Ports) : Ports :=
  match act with
  | .input k on =>
    if k.place.1 then { io with in1 := withBit io.in1 k.place.2 on }
    else { io with in2 := withBit io.in2 k.place.2 on }
  | .pause on => { io with paused := on }

/-- The host's actions in order. -/
def hostActs (acts : List HostAction) (io : Ports) : Ports :=
  match acts with
  | [] => io
  | act :: rest => hostActs rest (hostAct act io)

/-- Byte k of the graphics window 0x2400..0x3FFF as the host reads it (20_memory.md R99, R101). -/
def graphicsByte (s : State) (k : Fin 7168) : Byte := s.mem.read (0x2400 + k.val)

end Sys2Proof.Machine
end

