-- ==== Sys2Proof/Machine/IoControl.lean ====
section
/-! DEFINITION. I/O, interrupt enable and halt (48_io_interrupt_control.md R370 to R374): IN, OUT, EI, DI, HLT. -/

namespace Sys2Proof.Machine

/-- IN port8 (R370): a port the bus refuses is the fatal condition UnsupportedInPort (60_exceptions.md R402, R439). -/
def inputStep (op : Byte) (p : Byte) (s : State) : Res :=
  match portIn p s.ports with
  | some v => advance op 2 (s.setReg .a v)
  | none => .fault (.unsupportedInPort p)

/-- A state with other port devices. -/
def State.setPorts (s : State) (io : Ports) : State := { s with ports := io }

/-- A state with another INTE (R372, R373). -/
def State.setInte (s : State) (on : Bool) : State := { s with inte := on }

/-- A state with another halted flag (R374). -/
def State.setHalted (s : State) (on : Bool) : State := { s with halted := on }

/-- HLT (R374). -/
def execHlt (s : State) : Res := advance 0x76 1 (s.setHalted true)

/-- OUT port8 (R371). -/
def execOutPort (d : Byte) (s : State) : Res := advance 0xD3 2 (s.setPorts (portOut d s.regs.a s.ports))

/-- IN port8 (R370). -/
def execInPort (d : Byte) (s : State) : Res := inputStep 0xDB d s

/-- DI (R373). -/
def execDi (s : State) : Res := advance 0xF3 1 (s.setInte false)

/-- EI (R372). -/
def execEi (s : State) : Res := advance 0xFB 1 (s.setInte true)

end Sys2Proof.Machine
end

