-- ==== Sys2Proof/Machine/Logic.lean ====
section
/-! DEFINITION. Logic and compare (44_logic_compare.md R280 to R291): ANA, XRA, ORA, CMP and the immediates ANI, XRI, ORI, CPI. -/

namespace Sys2Proof.Machine

/-- ANA B (R280). -/
def execAnaB (s : State) : Res := aluStep 0xA0 1 .ana (.reg .b) s

/-- ANA C (R280). -/
def execAnaC (s : State) : Res := aluStep 0xA1 1 .ana (.reg .c) s

/-- ANA D (R280). -/
def execAnaD (s : State) : Res := aluStep 0xA2 1 .ana (.reg .d) s

/-- ANA E (R280). -/
def execAnaE (s : State) : Res := aluStep 0xA3 1 .ana (.reg .e) s

/-- ANA H (R280). -/
def execAnaH (s : State) : Res := aluStep 0xA4 1 .ana (.reg .h) s

/-- ANA L (R280). -/
def execAnaL (s : State) : Res := aluStep 0xA5 1 .ana (.reg .l) s

/-- ANA M (R281). -/
def execAnaM (s : State) : Res := aluStep 0xA6 1 .ana .mem s

/-- ANA A (R280). -/
def execAnaA (s : State) : Res := aluStep 0xA7 1 .ana (.reg .a) s

/-- XRA B (R283). -/
def execXraB (s : State) : Res := aluStep 0xA8 1 .xra (.reg .b) s

/-- XRA C (R283). -/
def execXraC (s : State) : Res := aluStep 0xA9 1 .xra (.reg .c) s

/-- XRA D (R283). -/
def execXraD (s : State) : Res := aluStep 0xAA 1 .xra (.reg .d) s

/-- XRA E (R283). -/
def execXraE (s : State) : Res := aluStep 0xAB 1 .xra (.reg .e) s

/-- XRA H (R283). -/
def execXraH (s : State) : Res := aluStep 0xAC 1 .xra (.reg .h) s

/-- XRA L (R283). -/
def execXraL (s : State) : Res := aluStep 0xAD 1 .xra (.reg .l) s

/-- XRA M (R284). -/
def execXraM (s : State) : Res := aluStep 0xAE 1 .xra .mem s

/-- XRA A (R283). -/
def execXraA (s : State) : Res := aluStep 0xAF 1 .xra (.reg .a) s

/-- ORA B (R286). -/
def execOraB (s : State) : Res := aluStep 0xB0 1 .ora (.reg .b) s

/-- ORA C (R286). -/
def execOraC (s : State) : Res := aluStep 0xB1 1 .ora (.reg .c) s

/-- ORA D (R286). -/
def execOraD (s : State) : Res := aluStep 0xB2 1 .ora (.reg .d) s

/-- ORA E (R286). -/
def execOraE (s : State) : Res := aluStep 0xB3 1 .ora (.reg .e) s

/-- ORA H (R286). -/
def execOraH (s : State) : Res := aluStep 0xB4 1 .ora (.reg .h) s

/-- ORA L (R286). -/
def execOraL (s : State) : Res := aluStep 0xB5 1 .ora (.reg .l) s

/-- ORA M (R287). -/
def execOraM (s : State) : Res := aluStep 0xB6 1 .ora .mem s

/-- ORA A (R286). -/
def execOraA (s : State) : Res := aluStep 0xB7 1 .ora (.reg .a) s

/-- CMP B (R289). -/
def execCmpB (s : State) : Res := aluStep 0xB8 1 .cmp (.reg .b) s

/-- CMP C (R289). -/
def execCmpC (s : State) : Res := aluStep 0xB9 1 .cmp (.reg .c) s

/-- CMP D (R289). -/
def execCmpD (s : State) : Res := aluStep 0xBA 1 .cmp (.reg .d) s

/-- CMP E (R289). -/
def execCmpE (s : State) : Res := aluStep 0xBB 1 .cmp (.reg .e) s

/-- CMP H (R289). -/
def execCmpH (s : State) : Res := aluStep 0xBC 1 .cmp (.reg .h) s

/-- CMP L (R289). -/
def execCmpL (s : State) : Res := aluStep 0xBD 1 .cmp (.reg .l) s

/-- CMP M (R290). -/
def execCmpM (s : State) : Res := aluStep 0xBE 1 .cmp .mem s

/-- CMP A (R289). -/
def execCmpA (s : State) : Res := aluStep 0xBF 1 .cmp (.reg .a) s

/-- ANI data8 (R282). -/
def execAni (d : Byte) (s : State) : Res := aluStep 0xE6 2 .ana (.imm d) s

/-- XRI data8 (R285). -/
def execXri (d : Byte) (s : State) : Res := aluStep 0xEE 2 .xra (.imm d) s

/-- ORI data8 (R288). -/
def execOri (d : Byte) (s : State) : Res := aluStep 0xF6 2 .ora (.imm d) s

/-- CPI data8 (R291). -/
def execCpi (d : Byte) (s : State) : Res := aluStep 0xFE 2 .cmp (.imm d) s

end Sys2Proof.Machine
end

