-- ==== Sys2Proof/Machine/Pair16.lean ====
section
/-! DEFINITION. 16-bit register-pair arithmetic (41_register_pair_arith.md R230 to R232): INX, DCX, DAD. -/

namespace Sys2Proof.Machine

/-- INX rp (R230). -/
def incPair (op : Byte) (p : Pair) (s : State) : Res := advance op 1 (s.setPair p (inc16 (s.pairVal p)))

/-- DCX rp (R231). -/
def decPair (op : Byte) (p : Pair) (s : State) : Res := advance op 1 (s.setPair p (dec16 (s.pairVal p)))

/-- DAD rp (R232). -/
def addPairToHl (op : Byte) (p : Pair) (s : State) : Res :=
  let r := aluAddHl s.regs.hl (s.pairVal p) s.flags
  advance op 1 { s with regs := s.regs.setHl r.1, flags := r.2 }

/-- INX B (R230). -/
def execInxB (s : State) : Res := incPair 0x03 .bc s

/-- DAD B (R232). -/
def execDadB (s : State) : Res := addPairToHl 0x09 .bc s

/-- DCX B (R231). -/
def execDcxB (s : State) : Res := decPair 0x0B .bc s

/-- INX D (R230). -/
def execInxD (s : State) : Res := incPair 0x13 .de s

/-- DAD D (R232). -/
def execDadD (s : State) : Res := addPairToHl 0x19 .de s

/-- DCX D (R231). -/
def execDcxD (s : State) : Res := decPair 0x1B .de s

/-- INX H (R230). -/
def execInxH (s : State) : Res := incPair 0x23 .hl s

/-- DAD H (R232). -/
def execDadH (s : State) : Res := addPairToHl 0x29 .hl s

/-- DCX H (R231). -/
def execDcxH (s : State) : Res := decPair 0x2B .hl s

/-- INX SP (R230). -/
def execInxSP (s : State) : Res := incPair 0x33 .sp s

/-- DAD SP (R232). -/
def execDadSP (s : State) : Res := addPairToHl 0x39 .sp s

/-- DCX SP (R231). -/
def execDcxSP (s : State) : Res := decPair 0x3B .sp s

end Sys2Proof.Machine
end

