-- ==== Sys2Proof/Machine/Rotate.lean ====
section
/-! DEFINITION. The rotate, carry and accumulator group (45_rotate_carry_daa.md R300 to R307): RLC, RRC, RAL, RAR, CMA, CMC, STC, DAA. -/

namespace Sys2Proof.Machine

/-- A state with another CY, the other flags as they were. -/
def State.setCarry (s : State) (cy : Bool) : State := { s with flags := { s.flags with cy := cy } }

/-- A rotate: the new A and CY (R300 to R303). -/
def rotateStep (op : Byte) (r : Byte × Bool) (s : State) : Res :=
  advance op 1 ((s.setReg .a r.1).setCarry r.2)

/-- RLC (R300). -/
def execRlc (s : State) : Res := rotateStep 0x07 (rotateLeft s.regs.a) s

/-- RRC (R301). -/
def execRrc (s : State) : Res := rotateStep 0x0F (rotateRight s.regs.a) s

/-- RAL (R302). -/
def execRal (s : State) : Res := rotateStep 0x17 (rotateLeftThroughCarry s.regs.a s.flags.cy) s

/-- RAR (R303). -/
def execRar (s : State) : Res := rotateStep 0x1F (rotateRightThroughCarry s.regs.a s.flags.cy) s

/-- DAA (R307). -/
def execDaa (s : State) : Res := writeAlu 0x27 1 (aluDaa s.cfg.daaCarry s.regs.a s.flags) s

/-- CMA (R304). -/
def execCma (s : State) : Res := advance 0x2F 1 (s.setReg .a (~~~s.regs.a))

/-- STC (R306). -/
def execStc (s : State) : Res := advance 0x37 1 (s.setCarry true)

/-- CMC (R305). -/
def execCmc (s : State) : Res := advance 0x3F 1 (s.setCarry (!s.flags.cy))

end Sys2Proof.Machine
end

