-- ==== Sys2Proof/Machine/Stack.lean ====
section
/-! DEFINITION. Stack and exchange (47_stack_exchange.md R350 to R356): PUSH, POP, XCHG, XTHL, SPHL. -/

namespace Sys2Proof.Machine

/-- PUSH of a 16-bit value (R350, R351). -/
def pushWord (op : Byte) (v : Word) (s : State) : Res := chain (push16 v s) (advance op 1)

/-- POP rp (R352). -/
def popPair (op : Byte) (p : StackPair) (s : State) : Res :=
  pop16 s fun v t => advance op 1 { t with regs := t.regs.setStackPair p v }

/-- POP PSW (R353). -/
def popPsw (op : Byte) (s : State) : Res :=
  pop16 s fun v t => advance op 1 { t.setReg .a (hi8 v) with flags := flagsOfByte (lo8 v) }

/-- XCHG (R354). -/
def exchangeDeHl (s : State) : State :=
  { s with regs := (s.regs.setHl s.regs.de).setDe s.regs.hl }

/-- XTHL (R355): both bytes are read before either is written; SP stays. -/
def exchangeStackHl (op : Byte) (s : State) : Res :=
  withAddr s.pc (stackAddr s.cfg s.sp 0) fun loAddr =>
    withAddr s.pc (stackAddr s.cfg s.sp 1) fun hiAddr =>
      let t := (s.writeByte loAddr s.regs.l).writeByte hiAddr s.regs.h
      advance op 1 ((t.setReg .l (s.readByte loAddr)).setReg .h (s.readByte hiAddr))

/-- POP B (R352). -/
def execPopB (s : State) : Res := popPair 0xC1 .bc s

/-- PUSH B (R350). -/
def execPushB (s : State) : Res := pushWord 0xC5 (s.regs.stackPair .bc) s

/-- POP D (R352). -/
def execPopD (s : State) : Res := popPair 0xD1 .de s

/-- PUSH D (R350). -/
def execPushD (s : State) : Res := pushWord 0xD5 (s.regs.stackPair .de) s

/-- POP H (R352). -/
def execPopH (s : State) : Res := popPair 0xE1 .hl s

/-- XTHL (R355). -/
def execXthl (s : State) : Res := exchangeStackHl 0xE3 s

/-- PUSH H (R350). -/
def execPushH (s : State) : Res := pushWord 0xE5 (s.regs.stackPair .hl) s

/-- XCHG (R354). -/
def execXchg (s : State) : Res := advance 0xEB 1 (exchangeDeHl s)

/-- POP PSW (R353). -/
def execPopPSW (s : State) : Res := popPsw 0xF1 s

/-- PUSH PSW (R351). -/
def execPushPSW (s : State) : Res := pushWord 0xF5 s.psw s

/-- SPHL (R356). -/
def execSphl (s : State) : Res := advance 0xF9 1 (s.setPair .sp s.regs.hl)

end Sys2Proof.Machine
end

