-- ==== Sys2Proof/Machine/Transfer.lean ====
section
/-! DEFINITION. NOP and data transfer (40_nop_data_transfer.md R200 to R212): NOP, MOV, MVI, LXI, LDA, STA, LHLD, SHLD, LDAX,
STAX.  None writes a flag. -/

namespace Sys2Proof.Machine

/-- The register form of MOV (R201). -/
def moveReg (op : Byte) (dst r : Reg) (s : State) : Res := advance op 1 (s.setReg dst (s.reg r))

/-- MOV r,M (R202). -/
def moveFromM (op : Byte) (dst : Reg) (s : State) : Res := advance op 1 (s.setReg dst s.readM)

/-- MOV M,r (R203). -/
def moveToM (op : Byte) (r : Reg) (s : State) : Res := advance op 1 (s.writeM (s.reg r))

/-- MVI r,data8 (R204). -/
def moveImm (op : Byte) (dst : Reg) (v : Byte) (s : State) : Res := advance op 2 (s.setReg dst v)

/-- MVI M,data8 (R205). -/
def moveImmToM (op : Byte) (v : Byte) (s : State) : Res := advance op 2 (s.writeM v)

/-- LXI rp,data16 (R206). -/
def loadPair (op : Byte) (p : Pair) (v : Word) (s : State) : Res := advance op 3 (s.setPair p v)

/-- A from an address: LDA (R207) and LDAX (R211). -/
def loadA (op : Byte) (len : Word) (addr : Word) (s : State) : Res :=
  advance op len (s.setReg .a (s.readByte addr))

/-- A to an address: STA (R208) and STAX (R212). -/
def storeA (op : Byte) (len : Word) (addr : Word) (s : State) : Res :=
  advance op len (s.writeByte addr s.regs.a)

/-- LHLD (R209): L from the address, H from the next one. -/
def loadHl (op : Byte) (addr : Word) (s : State) : Res :=
  withAddr s.pc (dataAddr s.cfg addr 1) fun next =>
    advance op 3 ((s.setReg .l (s.readByte addr)).setReg .h (s.readByte next))

/-- SHLD (R210): L to the address, H to the next one; the address rule comes before both writes. -/
def storeHl (op : Byte) (addr : Word) (s : State) : Res :=
  withAddr s.pc (dataAddr s.cfg addr 1) fun next =>
    advance op 3 ((s.writeByte addr s.regs.l).writeByte next s.regs.h)

/-- NOP (R200). -/
def execNop (s : State) : Res := advance 0x00 1 s

/-- LXI B,data16 (R206). -/
def execLxiB (w : Word) (s : State) : Res := loadPair 0x01 .bc w s

/-- STAX B (R212). -/
def execStaxB (s : State) : Res := storeA 0x02 1 (s.regs.addrPair .bc) s

/-- MVI B,data8 (R204). -/
def execMviB (d : Byte) (s : State) : Res := moveImm 0x06 .b d s

/-- LDAX B (R211). -/
def execLdaxB (s : State) : Res := loadA 0x0A 1 (s.regs.addrPair .bc) s

/-- MVI C,data8 (R204). -/
def execMviC (d : Byte) (s : State) : Res := moveImm 0x0E .c d s

/-- LXI D,data16 (R206). -/
def execLxiD (w : Word) (s : State) : Res := loadPair 0x11 .de w s

/-- STAX D (R212). -/
def execStaxD (s : State) : Res := storeA 0x12 1 (s.regs.addrPair .de) s

/-- MVI D,data8 (R204). -/
def execMviD (d : Byte) (s : State) : Res := moveImm 0x16 .d d s

/-- LDAX D (R211). -/
def execLdaxD (s : State) : Res := loadA 0x1A 1 (s.regs.addrPair .de) s

/-- MVI E,data8 (R204). -/
def execMviE (d : Byte) (s : State) : Res := moveImm 0x1E .e d s

/-- LXI H,data16 (R206). -/
def execLxiH (w : Word) (s : State) : Res := loadPair 0x21 .hl w s

/-- SHLD addr16 (R210). -/
def execShld (w : Word) (s : State) : Res := storeHl 0x22 w s

/-- MVI H,data8 (R204). -/
def execMviH (d : Byte) (s : State) : Res := moveImm 0x26 .h d s

/-- LHLD addr16 (R209). -/
def execLhld (w : Word) (s : State) : Res := loadHl 0x2A w s

/-- MVI L,data8 (R204). -/
def execMviL (d : Byte) (s : State) : Res := moveImm 0x2E .l d s

/-- LXI SP,data16 (R206). -/
def execLxiSP (w : Word) (s : State) : Res := loadPair 0x31 .sp w s

/-- STA addr16 (R208). -/
def execSta (w : Word) (s : State) : Res := storeA 0x32 3 w s

/-- MVI M,data8 (R205). -/
def execMviM (d : Byte) (s : State) : Res := moveImmToM 0x36 d s

/-- LDA addr16 (R207). -/
def execLda (w : Word) (s : State) : Res := loadA 0x3A 3 w s

/-- MVI A,data8 (R204). -/
def execMviA (d : Byte) (s : State) : Res := moveImm 0x3E .a d s

/-- MOV B,B (R201). -/
def execMovBB (s : State) : Res := moveReg 0x40 .b .b s

/-- MOV B,C (R201). -/
def execMovBC (s : State) : Res := moveReg 0x41 .b .c s

/-- MOV B,D (R201). -/
def execMovBD (s : State) : Res := moveReg 0x42 .b .d s

/-- MOV B,E (R201). -/
def execMovBE (s : State) : Res := moveReg 0x43 .b .e s

/-- MOV B,H (R201). -/
def execMovBH (s : State) : Res := moveReg 0x44 .b .h s

/-- MOV B,L (R201). -/
def execMovBL (s : State) : Res := moveReg 0x45 .b .l s

/-- MOV B,M (R202). -/
def execMovBM (s : State) : Res := moveFromM 0x46 .b s

/-- MOV B,A (R201). -/
def execMovBA (s : State) : Res := moveReg 0x47 .b .a s

/-- MOV C,B (R201). -/
def execMovCB (s : State) : Res := moveReg 0x48 .c .b s

/-- MOV C,C (R201). -/
def execMovCC (s : State) : Res := moveReg 0x49 .c .c s

/-- MOV C,D (R201). -/
def execMovCD (s : State) : Res := moveReg 0x4A .c .d s

/-- MOV C,E (R201). -/
def execMovCE (s : State) : Res := moveReg 0x4B .c .e s

/-- MOV C,H (R201). -/
def execMovCH (s : State) : Res := moveReg 0x4C .c .h s

/-- MOV C,L (R201). -/
def execMovCL (s : State) : Res := moveReg 0x4D .c .l s

/-- MOV C,M (R202). -/
def execMovCM (s : State) : Res := moveFromM 0x4E .c s

/-- MOV C,A (R201). -/
def execMovCA (s : State) : Res := moveReg 0x4F .c .a s

/-- MOV D,B (R201). -/
def execMovDB (s : State) : Res := moveReg 0x50 .d .b s

/-- MOV D,C (R201). -/
def execMovDC (s : State) : Res := moveReg 0x51 .d .c s

/-- MOV D,D (R201). -/
def execMovDD (s : State) : Res := moveReg 0x52 .d .d s

/-- MOV D,E (R201). -/
def execMovDE (s : State) : Res := moveReg 0x53 .d .e s

/-- MOV D,H (R201). -/
def execMovDH (s : State) : Res := moveReg 0x54 .d .h s

/-- MOV D,L (R201). -/
def execMovDL (s : State) : Res := moveReg 0x55 .d .l s

/-- MOV D,M (R202). -/
def execMovDM (s : State) : Res := moveFromM 0x56 .d s

/-- MOV D,A (R201). -/
def execMovDA (s : State) : Res := moveReg 0x57 .d .a s

/-- MOV E,B (R201). -/
def execMovEB (s : State) : Res := moveReg 0x58 .e .b s

/-- MOV E,C (R201). -/
def execMovEC (s : State) : Res := moveReg 0x59 .e .c s

/-- MOV E,D (R201). -/
def execMovED (s : State) : Res := moveReg 0x5A .e .d s

/-- MOV E,E (R201). -/
def execMovEE (s : State) : Res := moveReg 0x5B .e .e s

/-- MOV E,H (R201). -/
def execMovEH (s : State) : Res := moveReg 0x5C .e .h s

/-- MOV E,L (R201). -/
def execMovEL (s : State) : Res := moveReg 0x5D .e .l s

/-- MOV E,M (R202). -/
def execMovEM (s : State) : Res := moveFromM 0x5E .e s

/-- MOV E,A (R201). -/
def execMovEA (s : State) : Res := moveReg 0x5F .e .a s

/-- MOV H,B (R201). -/
def execMovHB (s : State) : Res := moveReg 0x60 .h .b s

/-- MOV H,C (R201). -/
def execMovHC (s : State) : Res := moveReg 0x61 .h .c s

/-- MOV H,D (R201). -/
def execMovHD (s : State) : Res := moveReg 0x62 .h .d s

/-- MOV H,E (R201). -/
def execMovHE (s : State) : Res := moveReg 0x63 .h .e s

/-- MOV H,H (R201). -/
def execMovHH (s : State) : Res := moveReg 0x64 .h .h s

/-- MOV H,L (R201). -/
def execMovHL (s : State) : Res := moveReg 0x65 .h .l s

/-- MOV H,M (R202). -/
def execMovHM (s : State) : Res := moveFromM 0x66 .h s

/-- MOV H,A (R201). -/
def execMovHA (s : State) : Res := moveReg 0x67 .h .a s

/-- MOV L,B (R201). -/
def execMovLB (s : State) : Res := moveReg 0x68 .l .b s

/-- MOV L,C (R201). -/
def execMovLC (s : State) : Res := moveReg 0x69 .l .c s

/-- MOV L,D (R201). -/
def execMovLD (s : State) : Res := moveReg 0x6A .l .d s

/-- MOV L,E (R201). -/
def execMovLE (s : State) : Res := moveReg 0x6B .l .e s

/-- MOV L,H (R201). -/
def execMovLH (s : State) : Res := moveReg 0x6C .l .h s

/-- MOV L,L (R201). -/
def execMovLL (s : State) : Res := moveReg 0x6D .l .l s

/-- MOV L,M (R202). -/
def execMovLM (s : State) : Res := moveFromM 0x6E .l s

/-- MOV L,A (R201). -/
def execMovLA (s : State) : Res := moveReg 0x6F .l .a s

/-- MOV M,B (R203). -/
def execMovMB (s : State) : Res := moveToM 0x70 .b s

/-- MOV M,C (R203). -/
def execMovMC (s : State) : Res := moveToM 0x71 .c s

/-- MOV M,D (R203). -/
def execMovMD (s : State) : Res := moveToM 0x72 .d s

/-- MOV M,E (R203). -/
def execMovME (s : State) : Res := moveToM 0x73 .e s

/-- MOV M,H (R203). -/
def execMovMH (s : State) : Res := moveToM 0x74 .h s

/-- MOV M,L (R203). -/
def execMovML (s : State) : Res := moveToM 0x75 .l s

/-- MOV M,A (R203). -/
def execMovMA (s : State) : Res := moveToM 0x77 .a s

/-- MOV A,B (R201). -/
def execMovAB (s : State) : Res := moveReg 0x78 .a .b s

/-- MOV A,C (R201). -/
def execMovAC (s : State) : Res := moveReg 0x79 .a .c s

/-- MOV A,D (R201). -/
def execMovAD (s : State) : Res := moveReg 0x7A .a .d s

/-- MOV A,E (R201). -/
def execMovAE (s : State) : Res := moveReg 0x7B .a .e s

/-- MOV A,H (R201). -/
def execMovAH (s : State) : Res := moveReg 0x7C .a .h s

/-- MOV A,L (R201). -/
def execMovAL (s : State) : Res := moveReg 0x7D .a .l s

/-- MOV A,M (R202). -/
def execMovAM (s : State) : Res := moveFromM 0x7E .a s

/-- MOV A,A (R201). -/
def execMovAA (s : State) : Res := moveReg 0x7F .a .a s

end Sys2Proof.Machine
end

