-- ==== Sys2Proof/WellFormed.lean ====
section
/-! DEFINITION. Which terms of Instr are instructions of the core.  Every operand has the width its encoding gives it, so
the one thing left to check is that the term is one of the 244 documented instructions and not one of the twelve
illegal byte values (30_encoding.md R133, R136), which the table lists as rows and Syntax.lean as constructors. -/

namespace Sys2Proof

/-- `true` for the 244 instructions of 30_encoding.md R129 to R132, `false` for the twelve illegal byte values of
R133. -/
def Instr.wellFormed (i : Instr) : Bool :=
  match i with
  | .nop => true
  | .lxiB _ => true
  | .staxB => true
  | .inxB => true
  | .inrB => true
  | .dcrB => true
  | .mviB _ => true
  | .rlc => true
  | .illegal08 => false
  | .dadB => true
  | .ldaxB => true
  | .dcxB => true
  | .inrC => true
  | .dcrC => true
  | .mviC _ => true
  | .rrc => true
  | .illegal10 => false
  | .lxiD _ => true
  | .staxD => true
  | .inxD => true
  | .inrD => true
  | .dcrD => true
  | .mviD _ => true
  | .ral => true
  | .illegal18 => false
  | .dadD => true
  | .ldaxD => true
  | .dcxD => true
  | .inrE => true
  | .dcrE => true
  | .mviE _ => true
  | .rar => true
  | .illegal20 => false
  | .lxiH _ => true
  | .shld _ => true
  | .inxH => true
  | .inrH => true
  | .dcrH => true
  | .mviH _ => true
  | .daa => true
  | .illegal28 => false
  | .dadH => true
  | .lhld _ => true
  | .dcxH => true
  | .inrL => true
  | .dcrL => true
  | .mviL _ => true
  | .cma => true
  | .illegal30 => false
  | .lxiSP _ => true
  | .sta _ => true
  | .inxSP => true
  | .inrM => true
  | .dcrM => true
  | .mviM _ => true
  | .stc => true
  | .illegal38 => false
  | .dadSP => true
  | .lda _ => true
  | .dcxSP => true
  | .inrA => true
  | .dcrA => true
  | .mviA _ => true
  | .cmc => true
  | .movBB => true
  | .movBC => true
  | .movBD => true
  | .movBE => true
  | .movBH => true
  | .movBL => true
  | .movBM => true
  | .movBA => true
  | .movCB => true
  | .movCC => true
  | .movCD => true
  | .movCE => true
  | .movCH => true
  | .movCL => true
  | .movCM => true
  | .movCA => true
  | .movDB => true
  | .movDC => true
  | .movDD => true
  | .movDE => true
  | .movDH => true
  | .movDL => true
  | .movDM => true
  | .movDA => true
  | .movEB => true
  | .movEC => true
  | .movED => true
  | .movEE => true
  | .movEH => true
  | .movEL => true
  | .movEM => true
  | .movEA => true
  | .movHB => true
  | .movHC => true
  | .movHD => true
  | .movHE => true
  | .movHH => true
  | .movHL => true
  | .movHM => true
  | .movHA => true
  | .movLB => true
  | .movLC => true
  | .movLD => true
  | .movLE => true
  | .movLH => true
  | .movLL => true
  | .movLM => true
  | .movLA => true
  | .movMB => true
  | .movMC => true
  | .movMD => true
  | .movME => true
  | .movMH => true
  | .movML => true
  | .hlt => true
  | .movMA => true
  | .movAB => true
  | .movAC => true
  | .movAD => true
  | .movAE => true
  | .movAH => true
  | .movAL => true
  | .movAM => true
  | .movAA => true
  | .addB => true
  | .addC => true
  | .addD => true
  | .addE => true
  | .addH => true
  | .addL => true
  | .addM => true
  | .addA => true
  | .adcB => true
  | .adcC => true
  | .adcD => true
  | .adcE => true
  | .adcH => true
  | .adcL => true
  | .adcM => true
  | .adcA => true
  | .subB => true
  | .subC => true
  | .subD => true
  | .subE => true
  | .subH => true
  | .subL => true
  | .subM => true
  | .subA => true
  | .sbbB => true
  | .sbbC => true
  | .sbbD => true
  | .sbbE => true
  | .sbbH => true
  | .sbbL => true
  | .sbbM => true
  | .sbbA => true
  | .anaB => true
  | .anaC => true
  | .anaD => true
  | .anaE => true
  | .anaH => true
  | .anaL => true
  | .anaM => true
  | .anaA => true
  | .xraB => true
  | .xraC => true
  | .xraD => true
  | .xraE => true
  | .xraH => true
  | .xraL => true
  | .xraM => true
  | .xraA => true
  | .oraB => true
  | .oraC => true
  | .oraD => true
  | .oraE => true
  | .oraH => true
  | .oraL => true
  | .oraM => true
  | .oraA => true
  | .cmpB => true
  | .cmpC => true
  | .cmpD => true
  | .cmpE => true
  | .cmpH => true
  | .cmpL => true
  | .cmpM => true
  | .cmpA => true
  | .rnz => true
  | .popB => true
  | .jnz _ => true
  | .jmp _ => true
  | .cnz _ => true
  | .pushB => true
  | .adi _ => true
  | .rst0 => true
  | .rz => true
  | .ret => true
  | .jz _ => true
  | .illegalCB => false
  | .cz _ => true
  | .call _ => true
  | .aci _ => true
  | .rst1 => true
  | .rnc => true
  | .popD => true
  | .jnc _ => true
  | .outPort _ => true
  | .cnc _ => true
  | .pushD => true
  | .sui _ => true
  | .rst2 => true
  | .rc => true
  | .illegalD9 => false
  | .jc _ => true
  | .inPort _ => true
  | .cc _ => true
  | .illegalDD => false
  | .sbi _ => true
  | .rst3 => true
  | .rpo => true
  | .popH => true
  | .jpo _ => true
  | .xthl => true
  | .cpo _ => true
  | .pushH => true
  | .ani _ => true
  | .rst4 => true
  | .rpe => true
  | .pchl => true
  | .jpe _ => true
  | .xchg => true
  | .cpe _ => true
  | .illegalED => false
  | .xri _ => true
  | .rst5 => true
  | .rp => true
  | .popPSW => true
  | .jp _ => true
  | .di => true
  | .cp _ => true
  | .pushPSW => true
  | .ori _ => true
  | .rst6 => true
  | .rm => true
  | .sphl => true
  | .jm _ => true
  | .ei => true
  | .cm _ => true
  | .illegalFD => false
  | .cpi _ => true
  | .rst7 => true

end Sys2Proof
end

