-- ==== Sys2Proof/Decode.lean ====
section
/-! DEFINITION. The decoder, total on any bytes (30_encoding.md R120 to R136), and after it the encoder, written from the
same tables.  The decoder splits the opcode byte into its fields (R124) and reads the opcode map's four quadrants as
four 8 by 8 grids (R129 to R132).  The twelve illegal byte values (R133) decode to the constructors of their own rows,
whose meanings raise IllegalOpcode. -/

namespace Sys2Proof

/-! ## Fields of the opcode byte (R124) -/

/-- `grp`, op[7:6]. -/
def fieldGrp (op : Byte) : Nat := op.toNat / 64

/-- `ddd`, `alu`, `ccc` and `nnn`, op[5:3]. -/
def fieldMid (op : Byte) : Nat := op.toNat / 8 % 8

/-- `sss`, op[2:0]. -/
def fieldLow (op : Byte) : Nat := op.toNat % 8

/-- The entry of a row of eight that a 3-bit field selects. -/
def pick8 {α : Type} (k : Nat) (x0 x1 x2 x3 x4 x5 x6 x7 : α) : α :=
  match k with
  | 0 => x0
  | 1 => x1
  | 2 => x2
  | 3 => x3
  | 4 => x4
  | 5 => x5
  | 6 => x6
  | _ => x7

/-! ## The decoder -/

/-- 0x00 to 0x3F: op[2:0] selects the row and op[5:3] the column (R129). -/
def decodeQuadrant00 (low mid : Nat) (b1 : Byte) (w : Word) : Instr :=
  pick8 low
    (pick8 mid .nop .illegal08 .illegal10 .illegal18 .illegal20 .illegal28 .illegal30 .illegal38)
    (pick8 mid (.lxiB w) .dadB (.lxiD w) .dadD (.lxiH w) .dadH (.lxiSP w) .dadSP)
    (pick8 mid .staxB .ldaxB .staxD .ldaxD (.shld w) (.lhld w) (.sta w) (.lda w))
    (pick8 mid .inxB .dcxB .inxD .dcxD .inxH .dcxH .inxSP .dcxSP)
    (pick8 mid .inrB .inrC .inrD .inrE .inrH .inrL .inrM .inrA)
    (pick8 mid .dcrB .dcrC .dcrD .dcrE .dcrH .dcrL .dcrM .dcrA)
    (pick8 mid (.mviB b1) (.mviC b1) (.mviD b1) (.mviE b1) (.mviH b1) (.mviL b1) (.mviM b1) (.mviA b1))
    (pick8 mid .rlc .rrc .ral .rar .daa .cma .stc .cmc)

/-- 0x40 to 0x7F: `01 ddd sss`: the row is ddd, the column sss; MOV, and HLT at the position of MOV M,M (R130). -/
def decodeQuadrant01 (mid low : Nat) : Instr :=
  pick8 mid
    (pick8 low .movBB .movBC .movBD .movBE .movBH .movBL .movBM .movBA)
    (pick8 low .movCB .movCC .movCD .movCE .movCH .movCL .movCM .movCA)
    (pick8 low .movDB .movDC .movDD .movDE .movDH .movDL .movDM .movDA)
    (pick8 low .movEB .movEC .movED .movEE .movEH .movEL .movEM .movEA)
    (pick8 low .movHB .movHC .movHD .movHE .movHH .movHL .movHM .movHA)
    (pick8 low .movLB .movLC .movLD .movLE .movLH .movLL .movLM .movLA)
    (pick8 low .movMB .movMC .movMD .movME .movMH .movML .hlt .movMA)
    (pick8 low .movAB .movAC .movAD .movAE .movAH .movAL .movAM .movAA)

/-- 0x80 to 0xBF: `10 alu sss`: the row is alu, the column sss (R131). -/
def decodeQuadrant10 (mid low : Nat) : Instr :=
  pick8 mid
    (pick8 low .addB .addC .addD .addE .addH .addL .addM .addA)
    (pick8 low .adcB .adcC .adcD .adcE .adcH .adcL .adcM .adcA)
    (pick8 low .subB .subC .subD .subE .subH .subL .subM .subA)
    (pick8 low .sbbB .sbbC .sbbD .sbbE .sbbH .sbbL .sbbM .sbbA)
    (pick8 low .anaB .anaC .anaD .anaE .anaH .anaL .anaM .anaA)
    (pick8 low .xraB .xraC .xraD .xraE .xraH .xraL .xraM .xraA)
    (pick8 low .oraB .oraC .oraD .oraE .oraH .oraL .oraM .oraA)
    (pick8 low .cmpB .cmpC .cmpD .cmpE .cmpH .cmpL .cmpM .cmpA)

/-- 0xC0 to 0xFF: op[2:0] selects the row and op[5:3] the column (R132). -/
def decodeQuadrant11 (low mid : Nat) (b1 : Byte) (w : Word) : Instr :=
  pick8 low
    (pick8 mid .rnz .rz .rnc .rc .rpo .rpe .rp .rm)
    (pick8 mid .popB .ret .popD .illegalD9 .popH .pchl .popPSW .sphl)
    (pick8 mid (.jnz w) (.jz w) (.jnc w) (.jc w) (.jpo w) (.jpe w) (.jp w) (.jm w))
    (pick8 mid (.jmp w) .illegalCB (.outPort b1) (.inPort b1) .xthl .xchg .di .ei)
    (pick8 mid (.cnz w) (.cz w) (.cnc w) (.cc w) (.cpo w) (.cpe w) (.cp w) (.cm w))
    (pick8 mid .pushB (.call w) .pushD .illegalDD .pushH .illegalED .pushPSW .illegalFD)
    (pick8 mid (.adi b1) (.aci b1) (.sui b1) (.sbi b1) (.ani b1) (.xri b1) (.ori b1) (.cpi b1))
    (pick8 mid .rst0 .rst1 .rst2 .rst3 .rst4 .rst5 .rst6 .rst7)

/-- The instruction an opcode byte and the two bytes after it stand for.  `b1` is `byte1`, and `word` is
`pair(byte2, byte1)` (R121, R135). -/
def decodeBytes (op b1 b2 : Byte) : Instr :=
  match fieldGrp op with
  | 0 => decodeQuadrant00 (fieldLow op) (fieldMid op) b1 (pair b2 b1)
  | 1 => decodeQuadrant01 (fieldMid op) (fieldLow op)
  | 2 => decodeQuadrant10 (fieldMid op) (fieldLow op)
  | _ => decodeQuadrant11 (fieldLow op) (fieldMid op) b1 (pair b2 b1)

/-- `LENGTH(op)` (R134); an illegal byte value has the length 1 its table row gives it. -/
def lengthOf (op : Byte) : Nat :=
  if op ∈ [0x06#8, 0x0E#8, 0x16#8, 0x1E#8, 0x26#8, 0x2E#8, 0x36#8, 0x3E#8,
           0xC6#8, 0xCE#8, 0xD6#8, 0xDE#8, 0xE6#8, 0xEE#8, 0xF6#8, 0xFE#8, 0xD3#8, 0xDB#8] then 2
  else if op ∈ [0x01#8, 0x11#8, 0x21#8, 0x31#8, 0x22#8, 0x2A#8, 0x32#8, 0x3A#8, 0xC3#8, 0xCD#8,
                0xC2#8, 0xCA#8, 0xD2#8, 0xDA#8, 0xE2#8, 0xEA#8, 0xF2#8, 0xFA#8,
                0xC4#8, 0xCC#8, 0xD4#8, 0xDC#8, 0xE4#8, 0xEC#8, 0xF4#8, 0xFC#8] then 3
  else 1

/-- Why a list of bytes is not read as an instruction: cases of the model's own, which no fetch meets (DESIGN CHOICE,
log 19). -/
inductive DecodeReject where
  /-- There is no opcode byte. -/
  | noOpcode
  /-- The list ends before the operand bytes its opcode needs. -/
  | operandsMissing (op : Byte)
  deriving DecidableEq, Repr

/-- Reads one instruction from the front of a list of bytes and gives the bytes after it (R120, R134). -/
def decode (bytes : List Byte) : Except DecodeReject (Instr × List Byte) :=
  match bytes with
  | [] => .error .noOpcode
  | op :: rest =>
    match lengthOf op, rest with
    | 1, rest => .ok (decodeBytes op 0 0, rest)
    | 2, b1 :: rest => .ok (decodeBytes op b1 0, rest)
    | 3, b1 :: b2 :: rest => .ok (decodeBytes op b1 b2, rest)
    | _, _ => .error (.operandsMissing op)

/-! ## The encoder -/

/-- The opcode byte of an instruction (R129 to R133). -/
def Instr.opcode (i : Instr) : Byte :=
  match i with
  | .nop => 0x00
  | .lxiB _ => 0x01
  | .staxB => 0x02
  | .inxB => 0x03
  | .inrB => 0x04
  | .dcrB => 0x05
  | .mviB _ => 0x06
  | .rlc => 0x07
  | .illegal08 => 0x08
  | .dadB => 0x09
  | .ldaxB => 0x0A
  | .dcxB => 0x0B
  | .inrC => 0x0C
  | .dcrC => 0x0D
  | .mviC _ => 0x0E
  | .rrc => 0x0F
  | .illegal10 => 0x10
  | .lxiD _ => 0x11
  | .staxD => 0x12
  | .inxD => 0x13
  | .inrD => 0x14
  | .dcrD => 0x15
  | .mviD _ => 0x16
  | .ral => 0x17
  | .illegal18 => 0x18
  | .dadD => 0x19
  | .ldaxD => 0x1A
  | .dcxD => 0x1B
  | .inrE => 0x1C
  | .dcrE => 0x1D
  | .mviE _ => 0x1E
  | .rar => 0x1F
  | .illegal20 => 0x20
  | .lxiH _ => 0x21
  | .shld _ => 0x22
  | .inxH => 0x23
  | .inrH => 0x24
  | .dcrH => 0x25
  | .mviH _ => 0x26
  | .daa => 0x27
  | .illegal28 => 0x28
  | .dadH => 0x29
  | .lhld _ => 0x2A
  | .dcxH => 0x2B
  | .inrL => 0x2C
  | .dcrL => 0x2D
  | .mviL _ => 0x2E
  | .cma => 0x2F
  | .illegal30 => 0x30
  | .lxiSP _ => 0x31
  | .sta _ => 0x32
  | .inxSP => 0x33
  | .inrM => 0x34
  | .dcrM => 0x35
  | .mviM _ => 0x36
  | .stc => 0x37
  | .illegal38 => 0x38
  | .dadSP => 0x39
  | .lda _ => 0x3A
  | .dcxSP => 0x3B
  | .inrA => 0x3C
  | .dcrA => 0x3D
  | .mviA _ => 0x3E
  | .cmc => 0x3F
  | .movBB => 0x40
  | .movBC => 0x41
  | .movBD => 0x42
  | .movBE => 0x43
  | .movBH => 0x44
  | .movBL => 0x45
  | .movBM => 0x46
  | .movBA => 0x47
  | .movCB => 0x48
  | .movCC => 0x49
  | .movCD => 0x4A
  | .movCE => 0x4B
  | .movCH => 0x4C
  | .movCL => 0x4D
  | .movCM => 0x4E
  | .movCA => 0x4F
  | .movDB => 0x50
  | .movDC => 0x51
  | .movDD => 0x52
  | .movDE => 0x53
  | .movDH => 0x54
  | .movDL => 0x55
  | .movDM => 0x56
  | .movDA => 0x57
  | .movEB => 0x58
  | .movEC => 0x59
  | .movED => 0x5A
  | .movEE => 0x5B
  | .movEH => 0x5C
  | .movEL => 0x5D
  | .movEM => 0x5E
  | .movEA => 0x5F
  | .movHB => 0x60
  | .movHC => 0x61
  | .movHD => 0x62
  | .movHE => 0x63
  | .movHH => 0x64
  | .movHL => 0x65
  | .movHM => 0x66
  | .movHA => 0x67
  | .movLB => 0x68
  | .movLC => 0x69
  | .movLD => 0x6A
  | .movLE => 0x6B
  | .movLH => 0x6C
  | .movLL => 0x6D
  | .movLM => 0x6E
  | .movLA => 0x6F
  | .movMB => 0x70
  | .movMC => 0x71
  | .movMD => 0x72
  | .movME => 0x73
  | .movMH => 0x74
  | .movML => 0x75
  | .hlt => 0x76
  | .movMA => 0x77
  | .movAB => 0x78
  | .movAC => 0x79
  | .movAD => 0x7A
  | .movAE => 0x7B
  | .movAH => 0x7C
  | .movAL => 0x7D
  | .movAM => 0x7E
  | .movAA => 0x7F
  | .addB => 0x80
  | .addC => 0x81
  | .addD => 0x82
  | .addE => 0x83
  | .addH => 0x84
  | .addL => 0x85
  | .addM => 0x86
  | .addA => 0x87
  | .adcB => 0x88
  | .adcC => 0x89
  | .adcD => 0x8A
  | .adcE => 0x8B
  | .adcH => 0x8C
  | .adcL => 0x8D
  | .adcM => 0x8E
  | .adcA => 0x8F
  | .subB => 0x90
  | .subC => 0x91
  | .subD => 0x92
  | .subE => 0x93
  | .subH => 0x94
  | .subL => 0x95
  | .subM => 0x96
  | .subA => 0x97
  | .sbbB => 0x98
  | .sbbC => 0x99
  | .sbbD => 0x9A
  | .sbbE => 0x9B
  | .sbbH => 0x9C
  | .sbbL => 0x9D
  | .sbbM => 0x9E
  | .sbbA => 0x9F
  | .anaB => 0xA0
  | .anaC => 0xA1
  | .anaD => 0xA2
  | .anaE => 0xA3
  | .anaH => 0xA4
  | .anaL => 0xA5
  | .anaM => 0xA6
  | .anaA => 0xA7
  | .xraB => 0xA8
  | .xraC => 0xA9
  | .xraD => 0xAA
  | .xraE => 0xAB
  | .xraH => 0xAC
  | .xraL => 0xAD
  | .xraM => 0xAE
  | .xraA => 0xAF
  | .oraB => 0xB0
  | .oraC => 0xB1
  | .oraD => 0xB2
  | .oraE => 0xB3
  | .oraH => 0xB4
  | .oraL => 0xB5
  | .oraM => 0xB6
  | .oraA => 0xB7
  | .cmpB => 0xB8
  | .cmpC => 0xB9
  | .cmpD => 0xBA
  | .cmpE => 0xBB
  | .cmpH => 0xBC
  | .cmpL => 0xBD
  | .cmpM => 0xBE
  | .cmpA => 0xBF
  | .rnz => 0xC0
  | .popB => 0xC1
  | .jnz _ => 0xC2
  | .jmp _ => 0xC3
  | .cnz _ => 0xC4
  | .pushB => 0xC5
  | .adi _ => 0xC6
  | .rst0 => 0xC7
  | .rz => 0xC8
  | .ret => 0xC9
  | .jz _ => 0xCA
  | .illegalCB => 0xCB
  | .cz _ => 0xCC
  | .call _ => 0xCD
  | .aci _ => 0xCE
  | .rst1 => 0xCF
  | .rnc => 0xD0
  | .popD => 0xD1
  | .jnc _ => 0xD2
  | .outPort _ => 0xD3
  | .cnc _ => 0xD4
  | .pushD => 0xD5
  | .sui _ => 0xD6
  | .rst2 => 0xD7
  | .rc => 0xD8
  | .illegalD9 => 0xD9
  | .jc _ => 0xDA
  | .inPort _ => 0xDB
  | .cc _ => 0xDC
  | .illegalDD => 0xDD
  | .sbi _ => 0xDE
  | .rst3 => 0xDF
  | .rpo => 0xE0
  | .popH => 0xE1
  | .jpo _ => 0xE2
  | .xthl => 0xE3
  | .cpo _ => 0xE4
  | .pushH => 0xE5
  | .ani _ => 0xE6
  | .rst4 => 0xE7
  | .rpe => 0xE8
  | .pchl => 0xE9
  | .jpe _ => 0xEA
  | .xchg => 0xEB
  | .cpe _ => 0xEC
  | .illegalED => 0xED
  | .xri _ => 0xEE
  | .rst5 => 0xEF
  | .rp => 0xF0
  | .popPSW => 0xF1
  | .jp _ => 0xF2
  | .di => 0xF3
  | .cp _ => 0xF4
  | .pushPSW => 0xF5
  | .ori _ => 0xF6
  | .rst6 => 0xF7
  | .rm => 0xF8
  | .sphl => 0xF9
  | .jm _ => 0xFA
  | .ei => 0xFB
  | .cm _ => 0xFC
  | .illegalFD => 0xFD
  | .cpi _ => 0xFE
  | .rst7 => 0xFF

/-- The operand bytes of an instruction, in memory order: nothing, `byte1`, or the low and the high byte of a 16-bit
operand (R120, R135). -/
def Instr.operandBytes (i : Instr) : List Byte :=
  match i with
  | .nop => []
  | .lxiB w => [lo8 w, hi8 w]
  | .staxB => []
  | .inxB => []
  | .inrB => []
  | .dcrB => []
  | .mviB d => [d]
  | .rlc => []
  | .illegal08 => []
  | .dadB => []
  | .ldaxB => []
  | .dcxB => []
  | .inrC => []
  | .dcrC => []
  | .mviC d => [d]
  | .rrc => []
  | .illegal10 => []
  | .lxiD w => [lo8 w, hi8 w]
  | .staxD => []
  | .inxD => []
  | .inrD => []
  | .dcrD => []
  | .mviD d => [d]
  | .ral => []
  | .illegal18 => []
  | .dadD => []
  | .ldaxD => []
  | .dcxD => []
  | .inrE => []
  | .dcrE => []
  | .mviE d => [d]
  | .rar => []
  | .illegal20 => []
  | .lxiH w => [lo8 w, hi8 w]
  | .shld w => [lo8 w, hi8 w]
  | .inxH => []
  | .inrH => []
  | .dcrH => []
  | .mviH d => [d]
  | .daa => []
  | .illegal28 => []
  | .dadH => []
  | .lhld w => [lo8 w, hi8 w]
  | .dcxH => []
  | .inrL => []
  | .dcrL => []
  | .mviL d => [d]
  | .cma => []
  | .illegal30 => []
  | .lxiSP w => [lo8 w, hi8 w]
  | .sta w => [lo8 w, hi8 w]
  | .inxSP => []
  | .inrM => []
  | .dcrM => []
  | .mviM d => [d]
  | .stc => []
  | .illegal38 => []
  | .dadSP => []
  | .lda w => [lo8 w, hi8 w]
  | .dcxSP => []
  | .inrA => []
  | .dcrA => []
  | .mviA d => [d]
  | .cmc => []
  | .movBB => []
  | .movBC => []
  | .movBD => []
  | .movBE => []
  | .movBH => []
  | .movBL => []
  | .movBM => []
  | .movBA => []
  | .movCB => []
  | .movCC => []
  | .movCD => []
  | .movCE => []
  | .movCH => []
  | .movCL => []
  | .movCM => []
  | .movCA => []
  | .movDB => []
  | .movDC => []
  | .movDD => []
  | .movDE => []
  | .movDH => []
  | .movDL => []
  | .movDM => []
  | .movDA => []
  | .movEB => []
  | .movEC => []
  | .movED => []
  | .movEE => []
  | .movEH => []
  | .movEL => []
  | .movEM => []
  | .movEA => []
  | .movHB => []
  | .movHC => []
  | .movHD => []
  | .movHE => []
  | .movHH => []
  | .movHL => []
  | .movHM => []
  | .movHA => []
  | .movLB => []
  | .movLC => []
  | .movLD => []
  | .movLE => []
  | .movLH => []
  | .movLL => []
  | .movLM => []
  | .movLA => []
  | .movMB => []
  | .movMC => []
  | .movMD => []
  | .movME => []
  | .movMH => []
  | .movML => []
  | .hlt => []
  | .movMA => []
  | .movAB => []
  | .movAC => []
  | .movAD => []
  | .movAE => []
  | .movAH => []
  | .movAL => []
  | .movAM => []
  | .movAA => []
  | .addB => []
  | .addC => []
  | .addD => []
  | .addE => []
  | .addH => []
  | .addL => []
  | .addM => []
  | .addA => []
  | .adcB => []
  | .adcC => []
  | .adcD => []
  | .adcE => []
  | .adcH => []
  | .adcL => []
  | .adcM => []
  | .adcA => []
  | .subB => []
  | .subC => []
  | .subD => []
  | .subE => []
  | .subH => []
  | .subL => []
  | .subM => []
  | .subA => []
  | .sbbB => []
  | .sbbC => []
  | .sbbD => []
  | .sbbE => []
  | .sbbH => []
  | .sbbL => []
  | .sbbM => []
  | .sbbA => []
  | .anaB => []
  | .anaC => []
  | .anaD => []
  | .anaE => []
  | .anaH => []
  | .anaL => []
  | .anaM => []
  | .anaA => []
  | .xraB => []
  | .xraC => []
  | .xraD => []
  | .xraE => []
  | .xraH => []
  | .xraL => []
  | .xraM => []
  | .xraA => []
  | .oraB => []
  | .oraC => []
  | .oraD => []
  | .oraE => []
  | .oraH => []
  | .oraL => []
  | .oraM => []
  | .oraA => []
  | .cmpB => []
  | .cmpC => []
  | .cmpD => []
  | .cmpE => []
  | .cmpH => []
  | .cmpL => []
  | .cmpM => []
  | .cmpA => []
  | .rnz => []
  | .popB => []
  | .jnz w => [lo8 w, hi8 w]
  | .jmp w => [lo8 w, hi8 w]
  | .cnz w => [lo8 w, hi8 w]
  | .pushB => []
  | .adi d => [d]
  | .rst0 => []
  | .rz => []
  | .ret => []
  | .jz w => [lo8 w, hi8 w]
  | .illegalCB => []
  | .cz w => [lo8 w, hi8 w]
  | .call w => [lo8 w, hi8 w]
  | .aci d => [d]
  | .rst1 => []
  | .rnc => []
  | .popD => []
  | .jnc w => [lo8 w, hi8 w]
  | .outPort d => [d]
  | .cnc w => [lo8 w, hi8 w]
  | .pushD => []
  | .sui d => [d]
  | .rst2 => []
  | .rc => []
  | .illegalD9 => []
  | .jc w => [lo8 w, hi8 w]
  | .inPort d => [d]
  | .cc w => [lo8 w, hi8 w]
  | .illegalDD => []
  | .sbi d => [d]
  | .rst3 => []
  | .rpo => []
  | .popH => []
  | .jpo w => [lo8 w, hi8 w]
  | .xthl => []
  | .cpo w => [lo8 w, hi8 w]
  | .pushH => []
  | .ani d => [d]
  | .rst4 => []
  | .rpe => []
  | .pchl => []
  | .jpe w => [lo8 w, hi8 w]
  | .xchg => []
  | .cpe w => [lo8 w, hi8 w]
  | .illegalED => []
  | .xri d => [d]
  | .rst5 => []
  | .rp => []
  | .popPSW => []
  | .jp w => [lo8 w, hi8 w]
  | .di => []
  | .cp w => [lo8 w, hi8 w]
  | .pushPSW => []
  | .ori d => [d]
  | .rst6 => []
  | .rm => []
  | .sphl => []
  | .jm w => [lo8 w, hi8 w]
  | .ei => []
  | .cm w => [lo8 w, hi8 w]
  | .illegalFD => []
  | .cpi d => [d]
  | .rst7 => []

/-- The bytes of an instruction (R120). -/
def encode (i : Instr) : List Byte := i.opcode :: i.operandBytes

/-! ## Instructions by operand

The constructors name their register operands; these functions take the operand as an argument, as the rules of files
40 to 47 do (`MOV r,r'`, `ADD r`, `Jcc addr16`). -/

/-- The 3-bit code of a register (R125). -/
def Reg.code : Reg → Nat
  | .b => 0
  | .c => 1
  | .d => 2
  | .e => 3
  | .h => 4
  | .l => 5
  | .a => 7

/-- The 2-bit code of a pair (R126). -/
def Pair.code : Pair → Nat
  | .bc => 0
  | .de => 1
  | .hl => 2
  | .sp => 3

/-- The 2-bit code of a stack pair (R126); 3 is PSW. -/
def StackPair.code : StackPair → Nat
  | .bc => 0
  | .de => 1
  | .hl => 2

/-- The code of an address pair (R126). -/
def AddrPair.code : AddrPair → Nat
  | .bc => 0
  | .de => 1

/-- The 3-bit code of a condition (R127). -/
def Cond.code : Cond → Nat
  | .nz => 0
  | .z => 1
  | .nc => 2
  | .c => 3
  | .po => 4
  | .pe => 5
  | .p => 6
  | .m => 7

/-- The 3-bit code of an ALU operation (R128). -/
def AluOp.code : AluOp → Nat
  | .add => 0
  | .adc => 1
  | .sub => 2
  | .sbb => 3
  | .ana => 4
  | .xra => 5
  | .ora => 6
  | .cmp => 7

/-- `MOV r,r'` (R201): destination, source. -/
def Instr.mov : Reg → Reg → Instr
  | .b, .b => .movBB
  | .b, .c => .movBC
  | .b, .d => .movBD
  | .b, .e => .movBE
  | .b, .h => .movBH
  | .b, .l => .movBL
  | .b, .a => .movBA
  | .c, .b => .movCB
  | .c, .c => .movCC
  | .c, .d => .movCD
  | .c, .e => .movCE
  | .c, .h => .movCH
  | .c, .l => .movCL
  | .c, .a => .movCA
  | .d, .b => .movDB
  | .d, .c => .movDC
  | .d, .d => .movDD
  | .d, .e => .movDE
  | .d, .h => .movDH
  | .d, .l => .movDL
  | .d, .a => .movDA
  | .e, .b => .movEB
  | .e, .c => .movEC
  | .e, .d => .movED
  | .e, .e => .movEE
  | .e, .h => .movEH
  | .e, .l => .movEL
  | .e, .a => .movEA
  | .h, .b => .movHB
  | .h, .c => .movHC
  | .h, .d => .movHD
  | .h, .e => .movHE
  | .h, .h => .movHH
  | .h, .l => .movHL
  | .h, .a => .movHA
  | .l, .b => .movLB
  | .l, .c => .movLC
  | .l, .d => .movLD
  | .l, .e => .movLE
  | .l, .h => .movLH
  | .l, .l => .movLL
  | .l, .a => .movLA
  | .a, .b => .movAB
  | .a, .c => .movAC
  | .a, .d => .movAD
  | .a, .e => .movAE
  | .a, .h => .movAH
  | .a, .l => .movAL
  | .a, .a => .movAA

/-- `MOV r,M` (R202). -/
def Instr.movFromM : Reg → Instr
  | .b => .movBM
  | .c => .movCM
  | .d => .movDM
  | .e => .movEM
  | .h => .movHM
  | .l => .movLM
  | .a => .movAM

/-- `MOV M,r` (R203). -/
def Instr.movToM : Reg → Instr
  | .b => .movMB
  | .c => .movMC
  | .d => .movMD
  | .e => .movME
  | .h => .movMH
  | .l => .movML
  | .a => .movMA

/-- `MVI r,data8` (R204). -/
def Instr.mvi : Reg → Byte → Instr
  | .b, v => .mviB v
  | .c, v => .mviC v
  | .d, v => .mviD v
  | .e, v => .mviE v
  | .h, v => .mviH v
  | .l, v => .mviL v
  | .a, v => .mviA v

/-- `LXI rp,data16` (R206). -/
def Instr.lxi : Pair → Word → Instr
  | .bc, v => .lxiB v
  | .de, v => .lxiD v
  | .hl, v => .lxiH v
  | .sp, v => .lxiSP v

/-- `LDAX rp` (R211). -/
def Instr.ldax : AddrPair → Instr
  | .bc => .ldaxB
  | .de => .ldaxD

/-- `STAX rp` (R212). -/
def Instr.stax : AddrPair → Instr
  | .bc => .staxB
  | .de => .staxD

/-- `INX rp` (R230). -/
def Instr.inx : Pair → Instr
  | .bc => .inxB
  | .de => .inxD
  | .hl => .inxH
  | .sp => .inxSP

/-- `DCX rp` (R231). -/
def Instr.dcx : Pair → Instr
  | .bc => .dcxB
  | .de => .dcxD
  | .hl => .dcxH
  | .sp => .dcxSP

/-- `DAD rp` (R232). -/
def Instr.dad : Pair → Instr
  | .bc => .dadB
  | .de => .dadD
  | .hl => .dadH
  | .sp => .dadSP

/-- `INR r` (R240). -/
def Instr.inr : Reg → Instr
  | .b => .inrB
  | .c => .inrC
  | .d => .inrD
  | .e => .inrE
  | .h => .inrH
  | .l => .inrL
  | .a => .inrA

/-- `DCR r` (R242). -/
def Instr.dcr : Reg → Instr
  | .b => .dcrB
  | .c => .dcrC
  | .d => .dcrD
  | .e => .dcrE
  | .h => .dcrH
  | .l => .dcrL
  | .a => .dcrA

/-- The ALU group with its operand: a register (R250, R253, R256, R259, R280, R283, R286, R289), the byte at HL (R251,
R254, R257, R260, R281, R284, R287, R290) or an immediate (R252, R255, R258, R261, R282, R285, R288, R291). -/
def Instr.alu : AluOp → Src → Instr
  | .add, .reg .b => .addB
  | .add, .reg .c => .addC
  | .add, .reg .d => .addD
  | .add, .reg .e => .addE
  | .add, .reg .h => .addH
  | .add, .reg .l => .addL
  | .add, .reg .a => .addA
  | .adc, .reg .b => .adcB
  | .adc, .reg .c => .adcC
  | .adc, .reg .d => .adcD
  | .adc, .reg .e => .adcE
  | .adc, .reg .h => .adcH
  | .adc, .reg .l => .adcL
  | .adc, .reg .a => .adcA
  | .sub, .reg .b => .subB
  | .sub, .reg .c => .subC
  | .sub, .reg .d => .subD
  | .sub, .reg .e => .subE
  | .sub, .reg .h => .subH
  | .sub, .reg .l => .subL
  | .sub, .reg .a => .subA
  | .sbb, .reg .b => .sbbB
  | .sbb, .reg .c => .sbbC
  | .sbb, .reg .d => .sbbD
  | .sbb, .reg .e => .sbbE
  | .sbb, .reg .h => .sbbH
  | .sbb, .reg .l => .sbbL
  | .sbb, .reg .a => .sbbA
  | .ana, .reg .b => .anaB
  | .ana, .reg .c => .anaC
  | .ana, .reg .d => .anaD
  | .ana, .reg .e => .anaE
  | .ana, .reg .h => .anaH
  | .ana, .reg .l => .anaL
  | .ana, .reg .a => .anaA
  | .xra, .reg .b => .xraB
  | .xra, .reg .c => .xraC
  | .xra, .reg .d => .xraD
  | .xra, .reg .e => .xraE
  | .xra, .reg .h => .xraH
  | .xra, .reg .l => .xraL
  | .xra, .reg .a => .xraA
  | .ora, .reg .b => .oraB
  | .ora, .reg .c => .oraC
  | .ora, .reg .d => .oraD
  | .ora, .reg .e => .oraE
  | .ora, .reg .h => .oraH
  | .ora, .reg .l => .oraL
  | .ora, .reg .a => .oraA
  | .cmp, .reg .b => .cmpB
  | .cmp, .reg .c => .cmpC
  | .cmp, .reg .d => .cmpD
  | .cmp, .reg .e => .cmpE
  | .cmp, .reg .h => .cmpH
  | .cmp, .reg .l => .cmpL
  | .cmp, .reg .a => .cmpA
  | .add, .mem => .addM
  | .adc, .mem => .adcM
  | .sub, .mem => .subM
  | .sbb, .mem => .sbbM
  | .ana, .mem => .anaM
  | .xra, .mem => .xraM
  | .ora, .mem => .oraM
  | .cmp, .mem => .cmpM
  | .add, .imm v => .adi v
  | .adc, .imm v => .aci v
  | .sub, .imm v => .sui v
  | .sbb, .imm v => .sbi v
  | .ana, .imm v => .ani v
  | .xra, .imm v => .xri v
  | .ora, .imm v => .ori v
  | .cmp, .imm v => .cpi v

/-- `Jcc addr16` (R321). -/
def Instr.jcc : Cond → Word → Instr
  | .nz, v => .jnz v
  | .z, v => .jz v
  | .nc, v => .jnc v
  | .c, v => .jc v
  | .po, v => .jpo v
  | .pe, v => .jpe v
  | .p, v => .jp v
  | .m, v => .jm v

/-- `Ccc addr16` (R323). -/
def Instr.ccc : Cond → Word → Instr
  | .nz, v => .cnz v
  | .z, v => .cz v
  | .nc, v => .cnc v
  | .c, v => .cc v
  | .po, v => .cpo v
  | .pe, v => .cpe v
  | .p, v => .cp v
  | .m, v => .cm v

/-- `Rcc` (R325). -/
def Instr.rcc : Cond → Instr
  | .nz => .rnz
  | .z => .rz
  | .nc => .rnc
  | .c => .rc
  | .po => .rpo
  | .pe => .rpe
  | .p => .rp
  | .m => .rm

/-- `RST n` (R326). -/
def Instr.rst : Fin 8 → Instr
  | 0 => .rst0
  | 1 => .rst1
  | 2 => .rst2
  | 3 => .rst3
  | 4 => .rst4
  | 5 => .rst5
  | 6 => .rst6
  | 7 => .rst7

/-- `PUSH rp` (R350). -/
def Instr.push : StackPair → Instr
  | .bc => .pushB
  | .de => .pushD
  | .hl => .pushH

/-- `POP rp` (R352). -/
def Instr.pop : StackPair → Instr
  | .bc => .popB
  | .de => .popD
  | .hl => .popH

/-! ## The host's numbering of an instruction's bits -/

/-- Byte k of a number, the least significant byte first: byte 0 is the opcode, bytes 1 and 2 the operand bytes. -/
def tableByte (w k : Nat) : Byte := BitVec.ofNat 8 (w / 256 ^ k)

/-- What the decoder reads from an instruction whose bits are w, numbered as spec/opcode_table.json numbers them; the
bits from nbits up are 0. -/
def decodeTableWord (nbits w : Nat) : Option Instr :=
  let v := w % 2 ^ nbits
  match decode [tableByte v 0, tableByte v 1, tableByte v 2] with
  | .ok (i, _) => some i
  | .error _ => none

end Sys2Proof
end

