-- ==== Sys2Proof/Machine/Fetch.lean ====
section
/-! DEFINITION. A step without a fetch, and the fetch (30_encoding.md R121; 60_exceptions.md R406, R408). -/

namespace Sys2Proof.Machine

/-- A step that fetches nothing: a paused step returns (Paused, 0) and a halted step (Continue, HALT_STEP_CYCLES); both
change nothing else, and pause is looked at first (R121, R406, R408). -/
def idle (s : State) : Option State :=
  if s.ports.paused then some (s.setReport { status := .paused, cycles := 0 })
  else if s.halted then some (s.setReport { status := .cont, cycles := s.cfg.haltStepCycles })
  else none

/-- The fetch: the opcode at PC, refused as IllegalOpcode when it is in UNIMPLEMENTED, before the two bytes after it,
which are read whatever the instruction's length (R121, R406). -/
def fetch (s : State) : Except Fault Instr :=
  let op := s.readByte s.pc
  if op ∈ s.cfg.unimplemented then .error (.illegalOpcode op s.pc)
  else
    match dataAddr s.cfg s.pc 1, dataAddr s.cfg s.pc 2 with
    | .error n, _ => .error (.addressOutOfRange n s.pc)
    | .ok _, .error n => .error (.addressOutOfRange n s.pc)
    | .ok a1, .ok a2 => .ok (decodeBytes op (s.readByte a1) (s.readByte a2))

/-- Whether the run has ended: the last step returned Success or Failure (60_exceptions.md R448; 92 D27). -/
def State.ended (s : State) : Bool :=
  match s.report.status with
  | .cont => false
  | .paused => false
  | .success _ => true
  | .failure _ _ => true

/-- The three bytes of an instruction stored from PC on, whatever the instruction's length. -/
def State.storeAtPc (s : State) (b0 b1 b2 : Byte) : State :=
  ((s.writeByte s.pc b0).writeByte (s.pc + 1) b1).writeByte (s.pc + 2) b2

/-- A state in which the next step fetches: the run has not ended, the core is neither paused nor halted, no event is
due at the boundary and the frame is at its start.  State.reset is such a state already. -/
def State.readyToFetch (s : State) : State :=
  { s with halted := false, env := [], ports := { s.ports with paused := false },
           frame := { cycles := 0, half := .first, returned := s.frame.returned },
           report := { status := .cont, cycles := 0 } }

end Sys2Proof.Machine
end

