-- ==== Sys2Proof/Machine/Schedule.lean ====
section
/-! DEFINITION. What happens at the boundary before a step: the host's actions, then the interrupt requests of the
schedule (60_exceptions.md R410, R418, R420, R442); and the frame scheduler's count after a step. -/

namespace Sys2Proof.Machine

/-- The boundary event that comes next; nothing happens when `env` is empty (log 6). -/
def State.nextEvent (s : State) : Boundary :=
  match s.env with
  | [] => { host := [], request := none }
  | e :: _ => e

/-- The state after the host's actions of the next event, with the event taken from the list (R442). -/
def takeEvent (s : State) : State :=
  { s with env := s.env.tail, ports := hostActs s.nextEvent.host s.ports }

/-- The request the `Free` schedule's environment makes, if any (R418). -/
def freeRequest (r : Option IrqLine) (s : State) : Res :=
  match r with
  | none => .next s
  | some n => interrupt n s

/-- The requests of the frame scheduler at one boundary (R420).  In the first half, once the count has reached
HALF_FRAME_CYCLES, it raises line 1 and goes on in the second half; in the second half, once the count has reached
CYCLES_PER_FRAME, it raises line 2, the frame returns its count and the next frame begins at 0.  `fuel` bounds the
requests at one boundary: with a budget of at least 1 there are at most three, since a new frame's second half does
not end without a step (log 11). -/
def frameRequests (fuel : Nat) (s : State) : Res :=
  match fuel with
  | 0 => .next s
  | fuel + 1 =>
    match s.frame.half with
    | .first =>
      if s.frame.cycles < s.cfg.halfFrameCycles then .next s
      else chain (interrupt .line1 { s with frame := { s.frame with half := .second } }) (frameRequests fuel)
    | .second =>
      if s.frame.cycles < s.cfg.cyclesPerFrame then .next s
      else
        chain (interrupt .line2 { s with frame := { cycles := 0, half := .first, returned := s.frame.cycles } })
          (frameRequests fuel)

/-- The boundary before a step.  Under `Frame` the requests are exactly the frame scheduler's (R418, R420). -/
def boundary (s : State) : Res :=
  match s.cfg.schedule with
  | .free => freeRequest s.nextEvent.request (takeEvent s)
  | .frame => frameRequests 3 (takeEvent s)

/-- The frame scheduler adds the cycles of the step (R420); under `Free` there is no frame scheduler. -/
def countCycles (s : State) : State :=
  match s.cfg.schedule with
  | .free => s
  | .frame => { s with frame := { s.frame with cycles := s.frame.cycles + s.report.cycles } }

end Sys2Proof.Machine
end

