-- ==== Sys2Proof/Machine/Step.lean ====
section
/-! DEFINITION. One step: the boundary (60_exceptions.md R410), then one call of the spec's `step()` (30_encoding.md
R121), then the frame scheduler's count (R420). -/

namespace Sys2Proof.Machine

/-- One call of `step()` (R121): a paused or halted step, or fetch, decode and execute. -/
def coreStep (s : State) : Host.Outcome State Fault Refusal :=
  match idle s with
  | some t => .next t
  | none =>
    match fetch s with
    | .error x => .fault x
    | .ok i => exec i s

/-- One step of the machine.  No step follows one that ended the run with Success or Failure (R448, D27). -/
def step (s : State) : Host.Outcome State Fault Refusal :=
  if s.ended then .refused .runEnded
  else chain (boundary s) fun t => chain (coreStep t) fun u => .next (countCycles u)

/-- `s` with an instruction stored where the next step fetches: the bytes of w at PC, PC+1 and PC+2, the opcode first,
and nothing that would keep the next step from fetching there.  It stands for the load of a program from outside
(log 5).  At PC = 0xFFFE and 0xFFFF under `DATA_ADDR_POLICY = Fault` no instruction can be fetched (R93). -/
def State.withFetchWord (s : State) (nbits w : Nat) : State :=
  let v := w % 2 ^ nbits
  s.readyToFetch.storeAtPc (tableByte v 0) (tableByte v 1) (tableByte v 2)

end Sys2Proof.Machine
end

