-- ==== Sys2Proof/Machine/Boot.lean ====
section
/-! DEFINITION. The construction of the core from the parameters that only it reads (00_scope.md R10;
70_reset_and_hazards.md R500, R501, R503). -/

namespace Sys2Proof.Machine

/-- START_PC, RESET_REGS (registers, SP and flags), MEM_INIT, the image with its offset (R10, R501), and what the host
and the environment do in the run that follows (60_exceptions.md R418; log 18). -/
structure BootParams where
  startPc : Word
  regs : Regs
  flags : Flags
  sp : Word
  memInit : Memory
  image : List Byte
  offset : Nat
  env : List Boundary
  deriving DecidableEq, Repr

/-- The core after construction (R500, R503): memory holds the image over MEM_INIT, PC is START_PC, INTE and halted are
0, and the platform state has the values of 60_exceptions.md R443.  An image that does not fit is refused (R501). -/
def boot (cfg : Config) (b : BootParams) : Res :=
  if 65536 < b.offset + b.image.length then .refused (.imageDoesNotFit b.offset b.image.length)
  else
    .next { State.reset with
      regs := b.regs
      flags := b.flags
      sp := b.sp
      pc := b.startPc
      mem := b.memInit.writeBytes b.offset b.image
      env := b.env
      cfg := cfg }

end Sys2Proof.Machine
end

