-- ==== Sys2Proof/Safety.lean ====
section
/-! DEFINITION. The terms the statements use: what a safe step is, the invariant of the machine, frames (what an
instruction leaves unchanged), and the spec's rules in a form of their own, apart from the model's helpers. -/

namespace Sys2Proof

/-! ## Safe steps and the invariant -/

namespace Machine

/-- A step that ends in a next state and in no fatal condition or refusal. -/
def SafeStep (s : State) : Prop := ∃ t, step s = .next t

/-- What every step keeps: memory is in its canonical form; bit 3 of `in1` is set, and the bits of `in1` and `in2` that
no input owns have their reset values (60_exceptions.md R436, R440, R443). -/
structure MachineInv (s : State) : Prop where
  memory : s.mem.wf = true
  port1Bit3 : s.ports.in1.getLsbD 3 = true
  port1Bit7 : s.ports.in1.getLsbD 7 = false
  port2Bit0 : s.ports.in2.getLsbD 0 = false
  port2Bit1 : s.ports.in2.getLsbD 1 = false
  port2Bit3 : s.ports.in2.getLsbD 3 = false
  port2Bit7 : s.ports.in2.getLsbD 7 = false

/-! ## Frames -/

/-- From s to t every register but those of `ds` and every byte of memory but those at the addresses of `as` is as
before, and so are INTE, halted, the ports, the frame scheduler, the coming events, the free values drawn and the
parameters.  PC, SP, the flags and the report are said apart. -/
structure KeepsAllBut (ds : List Reg) (as : List Word) (s t : State) : Prop where
  regs : ∀ r, r ∉ ds → t.reg r = s.reg r
  bytes : ∀ a, a ∉ as → t.readByte a = s.readByte a
  inte : t.inte = s.inte
  halted : t.halted = s.halted
  ports : t.ports = s.ports
  frame : t.frame = s.frame
  env : t.env = s.env
  draws : t.draws = s.draws
  cfg : t.cfg = s.cfg

/-- The step of i reports Continue and the cycles CYCLE_TABLE gives its opcode (30_encoding.md R121, R123). -/
def Reports (i : Instr) (taken : Bool) (s t : State) : Prop :=
  t.report = { status := .cont, cycles := cycleTable s.cfg i.opcode taken }

/-- PC has gone on by the length of i, and the step of i reports as an ordinary one (R122). -/
def Advances (i : Instr) (s t : State) : Prop :=
  t.pc = s.pc + BitVec.ofNat 16 (encode i).length ∧ Reports i false s t

/-- The registers a write of a pair writes (10_state.md R31). -/
def pairRegs (p : Pair) : List Reg :=
  match p with
  | .bc => [.b, .c]
  | .de => [.d, .e]
  | .hl => [.h, .l]
  | .sp => []

/-- The first and the second register of a stack pair (47_stack_exchange.md R350). -/
def stackPairRegs (p : StackPair) : Reg × Reg :=
  match p with
  | .bc => (.b, .c)
  | .de => (.d, .e)
  | .hl => (.h, .l)

/-! ## The spec's flag rules, by bits and numbers -/

/-- Even parity, as the exclusive or of the bits (10_state.md R50). -/
def evenOnes (v : Byte) : Bool :=
  !(v.getLsbD 0 ^^ v.getLsbD 1 ^^ v.getLsbD 2 ^^ v.getLsbD 3 ^^ v.getLsbD 4 ^^ v.getLsbD 5 ^^ v.getLsbD 6 ^^
    v.getLsbD 7)

/-- S, Z and P are those of the byte r (R51). -/
def FlagsSZP (r : Byte) (f : Flags) : Prop :=
  f.s = r.getLsbD 7 ∧ f.z = decide (r.toNat = 0) ∧ f.p = evenOnes r

/-- r and f are the result and the flags of a + b + c (R52, R54). -/
def IsSum (a b : Byte) (c : Bool) (r : Byte) (f : Flags) : Prop :=
  r.toNat = (a.toNat + b.toNat + c.toNat) % 256 ∧
  f.cy = decide (255 < a.toNat + b.toNat + c.toNat) ∧
  f.ac = decide (15 < a.toNat % 16 + b.toNat % 16 + c.toNat) ∧
  FlagsSZP r f

/-- r and f are the result and the flags of a - b - c; CY is the borrow, and AC is set when the low nibble does not
borrow (R52, R55). -/
def IsDifference (a b : Byte) (c : Bool) (r : Byte) (f : Flags) : Prop :=
  (r.toNat : Int) = ((a.toNat : Int) - b.toNat - c.toNat) % 256 ∧
  f.cy = decide (a.toNat < b.toNat + c.toNat) ∧
  f.ac = decide (b.toNat % 16 + c.toNat ≤ a.toNat % 16) ∧
  FlagsSZP r f

/-- r and f are what DAA makes of a with the flags f0 (R63, R307). -/
def IsDecimalAdjust (mode : DaaCarry) (a : Byte) (f0 : Flags) (r : Byte) (f : Flags) : Prop :=
  let lo := a.toNat % 16
  let hi := a.toNat / 16
  let corr := (if 9 < lo ∨ f0.ac = true then 6 else 0) +
    (if 9 < hi ∨ f0.cy = true ∨ (9 ≤ hi ∧ 9 < lo) then 96 else 0)
  r.toNat = (a.toNat + corr) % 256 ∧
  f.cy = ((f0.cy && decide (mode = .wide)) || decide (255 < a.toNat + corr)) ∧
  f.ac = decide (15 < lo + corr % 16) ∧
  FlagsSZP r f

/-- The packed decimal byte of a number below 100. -/
def packedBcd (n : Nat) : Byte := BitVec.ofNat 8 (n / 10 * 16 + n % 10)

/-- Which flag a condition tests and the value it wants (R66). -/
def CondTrue (cnd : Cond) (f : Flags) : Prop :=
  match cnd with
  | .nz => f.z = false
  | .z => f.z = true
  | .nc => f.cy = false
  | .c => f.cy = true
  | .po => f.p = false
  | .pe => f.p = true
  | .p => f.s = false
  | .m => f.s = true

/-! ## Which instructions write what, by opcode -/

/-- The ALU group: 0x80..0xBF and the eight immediates (30_encoding.md R131, R132). -/
def inAluGroup (op : Nat) : Bool := op / 64 == 2 || (op / 64 == 3 && op % 8 == 6)

/-- The writers of S, Z, AC and P (10_state.md R38): the ALU group, INR, DCR, DAA, POP PSW. -/
def writesSZAcP (op : Nat) : Bool :=
  inAluGroup op || (op / 64 == 0 && (op % 8 == 4 || op % 8 == 5)) || op == 0x27 || op == 0xF1

/-- The writers of CY (R38): the ALU group, DCR, DAD, RLC, RRC, RAL, RAR, DAA, STC, CMC, POP PSW. -/
def writesCy (op : Nat) : Bool :=
  inAluGroup op || (op / 64 == 0 && op % 8 == 5) || op == 0xF1 ||
    [0x09, 0x19, 0x29, 0x39, 0x07, 0x0F, 0x17, 0x1F, 0x27, 0x37, 0x3F].contains op

/-- The instructions that store to memory (20_memory.md R97): MOV M,r, MVI M, INR M, DCR M, STA, STAX, SHLD, PUSH, CALL,
Ccc, RST, XTHL. -/
def storesToMemory (op : Nat) : Bool :=
  [0x70, 0x71, 0x72, 0x73, 0x74, 0x75, 0x77, 0x36, 0x34, 0x35, 0x32, 0x02, 0x12, 0x22, 0xC5, 0xD5, 0xE5, 0xF5, 0xCD,
    0xC4, 0xCC, 0xD4, 0xDC, 0xE4, 0xEC, 0xF4, 0xFC, 0xC7, 0xCF, 0xD7, 0xDF, 0xE7, 0xEF, 0xF7, 0xFF, 0xE3].contains op

/-- The instructions that write SP (10_state.md R33): LXI SP, INX SP, DCX SP, SPHL, PUSH, POP, CALL, Ccc, RET, Rcc,
RST. -/
def writesSp (op : Nat) : Bool :=
  [0x31, 0x33, 0x3B, 0xF9, 0xC5, 0xD5, 0xE5, 0xF5, 0xC1, 0xD1, 0xE1, 0xF1, 0xCD, 0xC4, 0xCC, 0xD4, 0xDC, 0xE4, 0xEC,
    0xF4, 0xFC, 0xC9, 0xC0, 0xC8, 0xD0, 0xD8, 0xE0, 0xE8, 0xF0, 0xF8, 0xC7, 0xCF, 0xD7, 0xDF, 0xE7, 0xEF, 0xF7,
    0xFF].contains op

/-! ## The host's inputs -/

/-- The port and the bit of that port's byte that an input owns (60_exceptions.md R440). -/
def inputBit (k : Input) : Nat × Nat :=
  match k with
  | .coin => (1, 0)
  | .start2 => (1, 1)
  | .start1 => (1, 2)
  | .fire1 => (1, 4)
  | .left1 => (1, 5)
  | .right1 => (1, 6)
  | .tilt => (2, 2)
  | .fire2 => (2, 4)
  | .left2 => (2, 5)
  | .right2 => (2, 6)

/-! ## The two schedules -/

/-- A state of the `Frame` schedule as one of the `Free` schedule with coming events of its own; the frame scheduler,
which `Free` does not have, is put at a fixed value. -/
def asFree (fixed : Frame) (events : List Boundary) (s : State) : State :=
  { s with cfg := { s.cfg with schedule := .free }, env := events, frame := fixed }

/-- A state under another CYCLE_TABLE and another HALT_STEP_CYCLES. -/
def withCycles (entries : List CycleEntry) (halt : Nat) (s : State) : State :=
  { s with cfg := { s.cfg with cycleEntries := entries, haltStepCycles := halt } }

end Machine

end Sys2Proof
end

