-- ==== Sys2Proof/Certificates/Slice0/Obligations.lean ====
section
/-! DEFINITION. The statements about the model, each from the numbered rules of spec/.  Frames, the spec's flag rules by
numbers and the sets of opcodes are in Sys2Proof/Safety.lean. -/

open Sys2Proof Sys2Proof.Machine

/-! ## Reset and construction -/

/-- 10_state.md R49, 70_reset_and_hazards.md R500, 60_exceptions.md R443: at reset PC is START_PC's default, INTE and
halted are clear and the platform state has its values; and the state after reset is what `boot` constructs from the
default parameters, its own registers, flags and SP, no image and no coming event. INTE, halted and the platform values
are the spec's own decisions D16, D12 and D25; registers, flags, SP, empty memory and the empty list of events are the
model's (logs 1, 2 and 18), and the tie holds whatever they are. -/
def Obligations.ResetGivesThePlatformValues : Prop :=
  State.reset.ports.in1 = 0x08 ∧ State.reset.ports.in2 = 0x00 ∧ State.reset.ports.out3 = 0x00 ∧
  State.reset.ports.out5 = 0x00 ∧ State.reset.ports.shiftValue = 0x0000 ∧ State.reset.ports.shiftOffset = 0 ∧
  State.reset.ports.paused = false ∧
  State.reset.pc = 0x0000 ∧ State.reset.inte = false ∧ State.reset.halted = false ∧
  boot Config.default
    { startPc := 0x0000, regs := State.reset.regs, flags := State.reset.flags, sp := State.reset.sp,
      memInit := [], image := [], offset := 0, env := [] } = .next State.reset

/-- 70_reset_and_hazards.md R500, R501: an image that fits is at its offset over MEM_INIT, PC is START_PC, INTE and
halted are clear, the registers, SP and flags are RESET_REGS, the coming events are those given, and an image that does
not fit is refused. INTE, halted, RESET_REGS, MEM_INIT and the refusal are the spec's own decisions D12, D16, D24 and
D29; the list of events is the model's own (logs 6 and 18). -/
def Obligations.BootLoadsTheImageAndSetsTheCore : Prop :=
  ∀ (cfg : Config) (b : BootParams),
    (b.offset + b.image.length ≤ 65536 → ∃ t, boot cfg b = .next t ∧
      (∀ k (h : k < b.image.length), t.mem.read (b.offset + k) = b.image[k]) ∧
      (∀ a, a < b.offset ∨ b.offset + b.image.length ≤ a → t.mem.read a = b.memInit.read a) ∧
      t.pc = b.startPc ∧ t.inte = false ∧ t.halted = false ∧ t.regs = b.regs ∧ t.flags = b.flags ∧ t.sp = b.sp ∧
      t.ports = State.reset.ports ∧ t.frame.cycles = 0 ∧ t.frame.half = .first ∧ t.env = b.env ∧ t.cfg = cfg) ∧
    (65536 < b.offset + b.image.length → boot cfg b = .refused (.imageDoesNotFit b.offset b.image.length))

/-! ## Encoding -/

/-- Every instruction, the illegal rows too, with every operand, is what its bytes decode to, and decoding consumes
exactly its bytes. -/
def Obligations.DecodeOfEncodeIsTheInstruction : Prop :=
  ∀ (i : Instr) (rest : List Byte), decode (encode i ++ rest) = .ok (i, rest)

/-- Whatever three bytes are fetched, the instruction they decode to is encoded by the first LENGTH(op) of them. -/
def Obligations.EncodeOfDecodeIsTheFetchedBytes : Prop :=
  ∀ op b1 b2 : Byte, encode (decodeBytes op b1 b2) = [op, b1, b2].take (lengthOf op)

/-- 30_encoding.md R129 to R132, with the codes of R125 to R128: where the fields of each form stand, and the opcode of
every form without one, the memory and PSW forms among them. All values are the spec's own decision D1. -/
def Obligations.OpcodeFieldsAreTheSpecsCodes : Prop :=
  (∀ dst r : Reg, (Instr.mov dst r).opcode.toNat = 64 + dst.code * 8 + r.code) ∧
  (∀ dst : Reg, (Instr.movFromM dst).opcode.toNat = 64 + dst.code * 8 + 6) ∧
  (∀ r : Reg, (Instr.movToM r).opcode.toNat = 64 + 6 * 8 + r.code) ∧
  Instr.hlt.opcode.toNat = 64 + 6 * 8 + 6 ∧
  (∀ (k : AluOp) (r : Reg), (Instr.alu k (.reg r)).opcode.toNat = 128 + k.code * 8 + r.code) ∧
  (∀ k : AluOp, (Instr.alu k .mem).opcode.toNat = 128 + k.code * 8 + 6) ∧
  (∀ (k : AluOp) (v : Byte), (Instr.alu k (.imm v)).opcode.toNat = 192 + k.code * 8 + 6) ∧
  (∀ (dst : Reg) (v : Byte), (Instr.mvi dst v).opcode.toNat = dst.code * 8 + 6) ∧
  (∀ dst : Reg, (Instr.inr dst).opcode.toNat = dst.code * 8 + 4 ∧ (Instr.dcr dst).opcode.toNat = dst.code * 8 + 5) ∧
  (∀ (p : Pair) (v : Word), (Instr.lxi p v).opcode.toNat = p.code * 16 + 1) ∧
  (∀ p : Pair, (Instr.inx p).opcode.toNat = p.code * 16 + 3 ∧ (Instr.dcx p).opcode.toNat = p.code * 16 + 11 ∧
    (Instr.dad p).opcode.toNat = p.code * 16 + 9) ∧
  (∀ p : AddrPair, (Instr.stax p).opcode.toNat = p.code * 16 + 2 ∧ (Instr.ldax p).opcode.toNat = p.code * 16 + 10) ∧
  (∀ (cnd : Cond) (v : Word), (Instr.rcc cnd).opcode.toNat = 192 + cnd.code * 8 ∧
    (Instr.jcc cnd v).opcode.toNat = 192 + cnd.code * 8 + 2 ∧ (Instr.ccc cnd v).opcode.toNat = 192 + cnd.code * 8 + 4) ∧
  (∀ p : StackPair, (Instr.pop p).opcode.toNat = 192 + p.code * 16 + 1 ∧
    (Instr.push p).opcode.toNat = 192 + p.code * 16 + 5) ∧
  (∀ n : Fin 8, (Instr.rst n).opcode.toNat = 192 + n.val * 8 + 7) ∧
  Instr.inrM.opcode.toNat = 6 * 8 + 4 ∧ Instr.dcrM.opcode.toNat = 6 * 8 + 5 ∧
  (∀ v : Byte, (Instr.mviM v).opcode.toNat = 6 * 8 + 6) ∧
  Instr.popPSW.opcode.toNat = 192 + 3 * 16 + 1 ∧ Instr.pushPSW.opcode.toNat = 192 + 3 * 16 + 5 ∧
  Instr.nop.opcode = 0x00 ∧ Instr.rlc.opcode = 0x07 ∧ Instr.rrc.opcode = 0x0F ∧ Instr.ral.opcode = 0x17 ∧
  Instr.rar.opcode = 0x1F ∧ Instr.daa.opcode = 0x27 ∧ Instr.cma.opcode = 0x2F ∧ Instr.stc.opcode = 0x37 ∧
  Instr.cmc.opcode = 0x3F ∧
  (∀ w : Word, (Instr.shld w).opcode = 0x22 ∧ (Instr.lhld w).opcode = 0x2A ∧ (Instr.sta w).opcode = 0x32 ∧
    (Instr.lda w).opcode = 0x3A ∧ (Instr.jmp w).opcode = 0xC3 ∧ (Instr.call w).opcode = 0xCD) ∧
  (∀ v : Byte, (Instr.outPort v).opcode = 0xD3 ∧ (Instr.inPort v).opcode = 0xDB) ∧
  Instr.ret.opcode = 0xC9 ∧ Instr.xthl.opcode = 0xE3 ∧ Instr.pchl.opcode = 0xE9 ∧ Instr.xchg.opcode = 0xEB ∧
  Instr.di.opcode = 0xF3 ∧ Instr.sphl.opcode = 0xF9 ∧ Instr.ei.opcode = 0xFB

/-- 30_encoding.md R134: 18 opcodes of two bytes, 26 of three, and one byte for every other one. -/
def Obligations.InstructionLengthFollowsTheOpcode : Prop :=
  let two : List Byte := [0x06, 0x0E, 0x16, 0x1E, 0x26, 0x2E, 0x36, 0x3E, 0xC6, 0xCE, 0xD6, 0xDE, 0xE6, 0xEE, 0xF6,
    0xFE, 0xD3, 0xDB]
  let three : List Byte := [0x01, 0x11, 0x21, 0x31, 0x22, 0x2A, 0x32, 0x3A, 0xC3, 0xC2, 0xCA, 0xD2, 0xDA, 0xE2, 0xEA,
    0xF2, 0xFA, 0xCD, 0xC4, 0xCC, 0xD4, 0xDC, 0xE4, 0xEC, 0xF4, 0xFC]
  two.length = 18 ∧ three.length = 26 ∧
  ∀ i : Instr, i.wellFormed = true →
    (encode i).length = if i.opcode ∈ two then 2 else if i.opcode ∈ three then 3 else 1

/-- 30_encoding.md R133, R136: the byte values that decode to no instruction are exactly twelve, whatever bytes
follow, and they are the default of UNIMPLEMENTED. Which byte values are illegal is the spec's own decision D2. -/
def Obligations.ExactlyTwelveByteValuesAreIllegal : Prop :=
  (∀ op b1 b2 : Byte, (decodeBytes op b1 b2).wellFormed = false ↔
    op ∈ [0x08#8, 0x10#8, 0x18#8, 0x20#8, 0x28#8, 0x30#8, 0x38#8, 0xCB#8, 0xD9#8, 0xDD#8, 0xED#8, 0xFD#8]) ∧
  ∀ op : Byte, op ∈ Config.default.unimplemented ↔ (decodeBytes op 0 0).wellFormed = false

/-- Words written out from the spec's encodings (30_encoding.md R129 to R132; files 40 to 48), whose opcode values are
the spec's own decision D1. That 0x08 is no instruction is the spec's own decision D2, and that it decodes to a row of
its own is the model's reading (log 14). The two rejects are the model's own: a list of bytes that ends too soon is a
case of the decoder of lists alone, which no fetch meets (log 19). -/
def Obligations.WordsOfTheSpecDecode : Prop :=
  decode [0x21, 0x34, 0x12] = .ok (.lxiH 0x1234, []) ∧
  decode [0x48] = .ok (.movCB, []) ∧
  decode [0x06, 0x03, 0x76] = .ok (.mviB 0x03, [0x76]) ∧
  decode [0x86] = .ok (.addM, []) ∧
  decode [0xC2, 0x00, 0x02] = .ok (.jnz 0x0200, []) ∧
  decode [0xD7] = .ok (.rst2, []) ∧
  decode [0xDB, 0x03] = .ok (.inPort 0x03, []) ∧
  decode [0x76] = .ok (.hlt, []) ∧
  decode [0x08] = .ok (.illegal08, []) ∧
  decode [] = .error .noOpcode ∧
  decode [0xC3, 0x00] = .error (.operandsMissing 0xC3)

/-! ## The step -/

/-- 30_encoding.md R121: in a state t that a boundary gives, neither paused nor halted, whose opcode is implemented
and whose operand bytes have addresses, the step is exec of the instruction that the three bytes at PC decode to, and
then the frame scheduler's count. With no event waiting under `Free` the boundary and the count do nothing. That a
boundary stands before the step is the model's reading (log 13). -/
def Obligations.StepRunsTheDecodedInstruction : Prop :=
  (∀ s t : State, s.ended = false → boundary s = .next t → t.ports.paused = false → t.halted = false →
    t.readByte t.pc ∉ t.cfg.unimplemented → (t.pc.toNat ≤ 0xFFFD ∨ t.cfg.dataAddrPolicy = .wrap) →
    step s = chain (exec (decodeBytes (t.readByte t.pc) (t.readByte (t.pc + 1)) (t.readByte (t.pc + 2))) t)
      fun u => .next (countCycles u)) ∧
  (∀ s : State, s.ended = false → s.cfg.schedule = .free → s.env = [] → s.ports.paused = false → s.halted = false →
    s.readByte s.pc ∉ s.cfg.unimplemented → (s.pc.toNat ≤ 0xFFFD ∨ s.cfg.dataAddrPolicy = .wrap) →
    ∀ t, step s = .next t ↔
      exec (decodeBytes (s.readByte s.pc) (s.readByte (s.pc + 1)) (s.readByte (s.pc + 2))) s = .next t)

/-- 60_exceptions.md R406: the order of the checks of one call of step(): pause, halt, the opcode, PC+1 and PC+2. The
halted step and the fault past 0xFFFF are the spec's own decisions D12 and D9; the address named is the model's
reading (log 12). -/
def Obligations.StepMakesItsChecksInOrder : Prop :=
  ∀ s : State,
    (s.ports.paused = true → coreStep s = .next { s with report := { status := .paused, cycles := 0 } }) ∧
    (s.ports.paused = false → s.halted = true →
      coreStep s = .next { s with report := { status := .cont, cycles := s.cfg.haltStepCycles } }) ∧
    (s.ports.paused = false → s.halted = false →
      (s.readByte s.pc ∈ s.cfg.unimplemented → coreStep s = .fault (.illegalOpcode (s.readByte s.pc) s.pc)) ∧
      (s.readByte s.pc ∉ s.cfg.unimplemented → s.cfg.dataAddrPolicy = .fault → 0xFFFE ≤ s.pc.toNat →
        coreStep s = .fault (.addressOutOfRange 0x10000 s.pc)))

/-- 60_exceptions.md R408: a paused step returns (Paused, 0) and changes no state.  Without an event at the boundary and
under `Free` a whole step does just that; a request at the boundary is taken before (70_reset_and_hazards.md R513). -/
def Obligations.PausedStepChangesNothing : Prop :=
  ∀ s : State, s.ended = false → s.cfg.schedule = .free → s.env = [] → s.ports.paused = true →
    step s = .next { s with report := { status := .paused, cycles := 0 } }

/-- 48_io_interrupt_control.md R374, 93 U15: halted with INTE clear, any number of steps can be made, under either
schedule and whatever the host and the environment do, and none leaves the halted state or changes a register, a flag,
SP, PC, INTE or a byte of memory. The halted state is the spec's own decision D12. -/
def Obligations.HaltWithInterruptsDisabledNeverEnds : Prop :=
  ∀ (n : Nat) (s : State), s.ended = false → s.halted = true → s.inte = false →
    ∃ t, Sys2Proof.core.run n s = .next t ∧ t.halted = true ∧ t.inte = false ∧ t.pc = s.pc ∧ t.sp = s.sp ∧
      t.regs = s.regs ∧ t.flags = s.flags ∧ t.mem = s.mem ∧ t.ended = false

/-! ## The invariant and whole-machine rules -/

/-- Every step keeps the invariant of the machine (Safety.lean), from every state that meets it. That the input bits no
input owns are 0, their reset value, is the spec's own decision D25. -/
def Obligations.StepKeepsTheMachineInvariant : Prop :=
  ∀ s t : State, MachineInv s → step s = .next t → MachineInv t

/-- The state after reset meets the invariant. That the input bits no input owns are 0 is the spec's own decision D25;
that memory lists nothing is the model's choice (log 2). -/
def Obligations.ResetMeetsTheMachineInvariant : Prop := MachineInv State.reset

/-- 60_exceptions.md R418, R440, R442, E13: each step takes exactly one event of the environment's list and does what
it carries. An action on an input gives its bit the value and keeps every other bit and port, one on the pause flag
changes that flag alone, the actions of an event are done in order, and under `Free` the event's request, if any, is made
in the state after them; an empty list does nothing. And no step changes a parameter. That the parameters stay is the
model's reading (log 3), and the list of events its own (log 6). -/
def Obligations.StepKeepsParametersAndTakesOneEvent : Prop :=
  (∀ s t : State, step s = .next t → t.cfg = s.cfg ∧ t.env = s.env.tail) ∧
  (∀ (k : Input) (on : Bool) (io : Ports),
    (∀ j, j < 8 →
      (hostAct (.input k on) io).in1.getLsbD j = (if inputBit k = (1, j) then on else io.in1.getLsbD j) ∧
      (hostAct (.input k on) io).in2.getLsbD j = (if inputBit k = (2, j) then on else io.in2.getLsbD j)) ∧
    hostAct (.input k on) io =
      { io with in1 := (hostAct (.input k on) io).in1, in2 := (hostAct (.input k on) io).in2 }) ∧
  (∀ (on : Bool) (io : Ports), hostAct (.pause on) io = { io with paused := on }) ∧
  (∀ (s : State) (e : Boundary) (rest : List Boundary), s.env = e :: rest →
    takeEvent s = { s with env := rest, ports := e.host.foldl (fun io act => hostAct act io) s.ports } ∧
    (s.cfg.schedule = .free → (∀ n, e.request = some n → boundary s = interrupt n (takeEvent s)) ∧
      (e.request = none → boundary s = .next (takeEvent s))) ∧
    (∀ t, boundary s = .next t → t.ports = (takeEvent s).ports)) ∧
  (∀ s : State, s.env = [] → takeEvent s = s ∧ (s.cfg.schedule = .free → boundary s = .next s))

/-- 10_state.md R38, the table of which instruction writes which flag. AC of XRA and ORA is the spec's own decision
D5. -/
def Obligations.FlagsAreWrittenAsTheTableSays : Prop :=
  (∀ (i : Instr) (s t : State), exec i s = .next t →
    (writesSZAcP i.opcode.toNat = false →
      t.flags.s = s.flags.s ∧ t.flags.z = s.flags.z ∧ t.flags.ac = s.flags.ac ∧ t.flags.p = s.flags.p) ∧
    (writesCy i.opcode.toNat = false → t.flags.cy = s.flags.cy)) ∧
  (∀ (x : Src) (s t : State), exec (.alu .ana x) s = .next t → t.flags.cy = false) ∧
  (∀ (x : Src) (s t : State), exec (.alu .xra x) s = .next t → t.flags.cy = false ∧ t.flags.ac = false) ∧
  (∀ (x : Src) (s t : State), exec (.alu .ora x) s = .next t → t.flags.cy = false ∧ t.flags.ac = false) ∧
  (∀ s t : State, exec .stc s = .next t → t.flags.cy = true) ∧
  (∀ (r : Reg) (s t : State), exec (.dcr r) s = .next t → t.flags.cy = (s.flags.cy || s.reg r == 0)) ∧
  (∀ s t : State, exec .dcrM s = .next t → t.flags.cy = (s.flags.cy || s.readM == 0)) ∧
  (∀ (n : IrqLine) (s t : State), interrupt n s = .next t → t.flags = s.flags)

/-- 20_memory.md R97: an instruction that is no store leaves every byte of memory as it was. -/
def Obligations.OnlyTheStoresWriteMemory : Prop :=
  ∀ (i : Instr) (s t : State), exec i s = .next t → storesToMemory i.opcode.toNat = false →
    ∀ a : Word, t.readByte a = s.readByte a

/-- 10_state.md R33: which instructions write SP. -/
def Obligations.OnlyTheListedInstructionsWriteSp : Prop :=
  ∀ (i : Instr) (s t : State), exec i s = .next t → writesSp i.opcode.toNat = false → t.sp = s.sp

/-- 10_state.md R35, R36: among the instructions EI and DI alone write INTE, and HLT alone writes halted. The halted
flag is the spec's own decision D12. -/
def Obligations.OnlyEiDiAndHltWriteInteAndHalted : Prop :=
  ∀ (i : Instr) (s t : State), exec i s = .next t →
    (i ≠ .ei → i ≠ .di → t.inte = s.inte) ∧ (i ≠ .hlt → t.halted = s.halted)

/-- 60_exceptions.md R442, R446; 10_state.md R47: no instruction changes the host's inputs, the pause flag, the coming
events, the frame scheduler's count or a parameter, and OUT alone changes the shift register and the output ports. The
coming events and the parameters are the model's own fields (logs 3 and 6). -/
def Obligations.NoInstructionChangesTheHostsState : Prop :=
  ∀ (i : Instr) (s t : State), exec i s = .next t →
    t.ports.in1 = s.ports.in1 ∧ t.ports.in2 = s.ports.in2 ∧ t.ports.paused = s.ports.paused ∧
    t.env = s.env ∧ t.frame = s.frame ∧ t.cfg = s.cfg ∧
    ((∀ p, i ≠ .outPort p) → t.ports = s.ports)

/-- 30_encoding.md R122: which instructions set PC; every other one, and Jcc, Ccc and Rcc whose condition fails, moves
PC on by its length; a jump to its own address stays there. That a jump to its own address counts as setting PC is the
spec's own decision D11. -/
def Obligations.SequencerAdvancesPcByTheLength : Prop :=
  (∀ (i : Instr) (s t : State), exec i s = .next t →
    (∀ w, i ≠ .jmp w ∧ i ≠ .call w) → i ≠ .ret → i ≠ .pchl → (∀ n, i ≠ .rst n) →
    (∀ cnd w, i = .jcc cnd w ∨ i = .ccc cnd w ∨ i = .rcc cnd → ¬ CondTrue cnd s.flags) →
    t.pc = s.pc + BitVec.ofNat 16 (encode i).length) ∧
  (∀ s : State, ∃ t, exec (.jmp s.pc) s = .next t ∧ t.pc = s.pc)

/-- 70_reset_and_hazards.md R523: no instruction's result depends on the cycle table: under another one the instruction
answers the same next state but for the cycles it reports, and reports the same status. -/
def Obligations.NoResultDependsOnTheCycleTable : Prop :=
  ∀ (i : Instr) (s t : State) (entries : List CycleEntry) (halt : Nat), exec i s = .next t →
    ∃ n, exec i (withCycles entries halt s) =
      .next (withCycles entries halt { t with report := { t.report with cycles := n } })

/-! ## NOP and data transfer -/

/-- 40_nop_data_transfer.md R200 to R203: NOP and the forms of MOV. -/
def Obligations.NopAndMovResults : Prop :=
  (∀ s : State, ∃ t, exec .nop s = .next t ∧ KeepsAllBut [] [] s t ∧ t.flags = s.flags ∧ t.sp = s.sp ∧
    Advances .nop s t) ∧
  (∀ (dst r : Reg) (s : State), ∃ t, exec (.mov dst r) s = .next t ∧ t.reg dst = s.reg r ∧ KeepsAllBut [dst] [] s t ∧
    t.flags = s.flags ∧ t.sp = s.sp ∧ Advances (.mov dst r) s t) ∧
  (∀ (dst : Reg) (s : State), ∃ t, exec (.movFromM dst) s = .next t ∧ t.reg dst = s.readByte s.regs.hl ∧
    KeepsAllBut [dst] [] s t ∧ t.flags = s.flags ∧ t.sp = s.sp ∧ Advances (.movFromM dst) s t) ∧
  (∀ (r : Reg) (s : State), ∃ t, exec (.movToM r) s = .next t ∧ t.readByte s.regs.hl = s.reg r ∧
    KeepsAllBut [] [s.regs.hl] s t ∧ t.flags = s.flags ∧ t.sp = s.sp ∧ Advances (.movToM r) s t)

/-- 40_nop_data_transfer.md R204 to R206: MVI and LXI; reading the pair back gives the word loaded. -/
def Obligations.ImmediateLoadResults : Prop :=
  (∀ (dst : Reg) (v : Byte) (s : State), ∃ t, exec (.mvi dst v) s = .next t ∧ t.reg dst = v ∧ KeepsAllBut [dst] [] s t ∧
    t.flags = s.flags ∧ t.sp = s.sp ∧ Advances (.mvi dst v) s t) ∧
  (∀ (v : Byte) (s : State), ∃ t, exec (.mviM v) s = .next t ∧ t.readByte s.regs.hl = v ∧
    KeepsAllBut [] [s.regs.hl] s t ∧ t.flags = s.flags ∧ t.sp = s.sp ∧ Advances (.mviM v) s t) ∧
  (∀ (p : Pair) (v : Word) (s : State), ∃ t, exec (.lxi p v) s = .next t ∧ t.pairVal p = v ∧
    KeepsAllBut (pairRegs p) [] s t ∧ t.flags = s.flags ∧ (p ≠ .sp → t.sp = s.sp) ∧ Advances (.lxi p v) s t)

/-- 40_nop_data_transfer.md R207, R208, R211, R212: LDA, STA, LDAX, STAX. -/
def Obligations.AccumulatorLoadAndStoreResults : Prop :=
  (∀ (w : Word) (s : State), ∃ t, exec (.lda w) s = .next t ∧ t.regs.a = s.readByte w ∧ KeepsAllBut [.a] [] s t ∧
    t.flags = s.flags ∧ t.sp = s.sp ∧ Advances (.lda w) s t) ∧
  (∀ (p : AddrPair) (s : State), ∃ t, exec (.ldax p) s = .next t ∧ t.regs.a = s.readByte (s.regs.addrPair p) ∧
    KeepsAllBut [.a] [] s t ∧ t.flags = s.flags ∧ t.sp = s.sp ∧ Advances (.ldax p) s t) ∧
  (∀ (w : Word) (s : State), ∃ t, exec (.sta w) s = .next t ∧ t.readByte w = s.regs.a ∧ KeepsAllBut [] [w] s t ∧
    t.flags = s.flags ∧ t.sp = s.sp ∧ Advances (.sta w) s t) ∧
  (∀ (p : AddrPair) (s : State), ∃ t, exec (.stax p) s = .next t ∧ t.readByte (s.regs.addrPair p) = s.regs.a ∧
    KeepsAllBut [] [s.regs.addrPair p] s t ∧ t.flags = s.flags ∧ t.sp = s.sp ∧ Advances (.stax p) s t)

/-- 40_nop_data_transfer.md R209, R210: LHLD and SHLD when the second byte has an address, and the fault at 0xFFFF under
`DATA_ADDR_POLICY = Fault`. The policy, with the fault and the wrap, is the spec's own decision D9. -/
def Obligations.HlLoadAndStoreResults : Prop :=
  (∀ (w next : Word) (s : State), dataAddr s.cfg w 1 = .ok next → ∃ t, exec (.lhld w) s = .next t ∧
    t.regs.l = s.readByte w ∧ t.regs.h = s.readByte next ∧ next = w + 1 ∧ KeepsAllBut [.h, .l] [] s t ∧
    t.flags = s.flags ∧ t.sp = s.sp ∧ Advances (.lhld w) s t) ∧
  (∀ (w next : Word) (s : State), dataAddr s.cfg w 1 = .ok next → ∃ t, exec (.shld w) s = .next t ∧
    t.readByte w = s.regs.l ∧ t.readByte next = s.regs.h ∧ next = w + 1 ∧ KeepsAllBut [] [w, next] s t ∧
    t.flags = s.flags ∧ t.sp = s.sp ∧ Advances (.shld w) s t) ∧
  (∀ (w : Word) (s : State), (∃ next, dataAddr s.cfg w 1 = .ok next) ↔ (w ≠ 0xFFFF ∨ s.cfg.dataAddrPolicy = .wrap)) ∧
  (∀ s : State, s.cfg.dataAddrPolicy = .fault →
    exec (.lhld 0xFFFF) s = .fault (.addressOutOfRange 0x10000 s.pc) ∧
    exec (.shld 0xFFFF) s = .fault (.addressOutOfRange 0x10000 s.pc))

/-! ## Register pairs -/

/-- 41_register_pair_arith.md R230, R231: INX and DCX. -/
def Obligations.InxAndDcxResults : Prop :=
  ∀ (p : Pair) (s : State),
    (∃ t, exec (.inx p) s = .next t ∧ (t.pairVal p).toNat = ((s.pairVal p).toNat + 1) % 65536 ∧
      KeepsAllBut (pairRegs p) [] s t ∧ t.flags = s.flags ∧ (p ≠ .sp → t.sp = s.sp) ∧ Advances (.inx p) s t) ∧
    (∃ t, exec (.dcx p) s = .next t ∧ (t.pairVal p).toNat = ((s.pairVal p).toNat + 65535) % 65536 ∧
      KeepsAllBut (pairRegs p) [] s t ∧ t.flags = s.flags ∧ (p ≠ .sp → t.sp = s.sp) ∧ Advances (.dcx p) s t)

/-- 41_register_pair_arith.md R232, 10_state.md R62: DAD writes HL and CY alone. That CY is cleared without overflow
is the spec's own decision D8. -/
def Obligations.DadResult : Prop :=
  ∀ (p : Pair) (s : State), ∃ t, exec (.dad p) s = .next t ∧
    t.regs.hl.toNat = (s.regs.hl.toNat + (s.pairVal p).toNat) % 65536 ∧
    t.flags = { s.flags with cy := decide (0xFFFF < s.regs.hl.toNat + (s.pairVal p).toNat) } ∧
    KeepsAllBut [.h, .l] [] s t ∧ t.sp = s.sp ∧ Advances (.dad p) s t

/-! ## Increment and decrement -/

/-- 42_inr_dcr.md R240, R241, 10_state.md R60: INR; CY stays. AC is the spec's own derivation in R60. -/
def Obligations.InrResults : Prop :=
  (∀ (r : Reg) (s : State), ∃ t, exec (.inr r) s = .next t ∧ (t.reg r).toNat = ((s.reg r).toNat + 1) % 256 ∧
    FlagsSZP (t.reg r) t.flags ∧ t.flags.ac = decide ((s.reg r).toNat % 16 = 15) ∧ t.flags.cy = s.flags.cy ∧
    KeepsAllBut [r] [] s t ∧ t.sp = s.sp ∧ Advances (.inr r) s t) ∧
  (∀ s : State, ∃ t, exec .inrM s = .next t ∧
    (t.readByte s.regs.hl).toNat = ((s.readByte s.regs.hl).toNat + 1) % 256 ∧
    FlagsSZP (t.readByte s.regs.hl) t.flags ∧ t.flags.ac = decide ((s.readByte s.regs.hl).toNat % 16 = 15) ∧
    t.flags.cy = s.flags.cy ∧ KeepsAllBut [] [s.regs.hl] s t ∧ t.sp = s.sp ∧ Advances .inrM s t)

/-- 42_inr_dcr.md R242, R243, 10_state.md R61: DCR; an operand of 0x00 sets CY and AC, any other leaves CY and clears
AC exactly when the result's low nibble is 0xF. AC outside the 0x00 case is the spec's own decision D6. -/
def Obligations.DcrResults : Prop :=
  (∀ (r : Reg) (s : State), ∃ t, exec (.dcr r) s = .next t ∧ (t.reg r).toNat = ((s.reg r).toNat + 255) % 256 ∧
    FlagsSZP (t.reg r) t.flags ∧
    (s.reg r = 0x00 → t.flags.cy = true ∧ t.flags.ac = true) ∧
    (s.reg r ≠ 0x00 → t.flags.cy = s.flags.cy ∧ t.flags.ac = decide ((t.reg r).toNat % 16 ≠ 15)) ∧
    KeepsAllBut [r] [] s t ∧ t.sp = s.sp ∧ Advances (.dcr r) s t) ∧
  (∀ s : State, ∃ t, exec .dcrM s = .next t ∧
    (t.readByte s.regs.hl).toNat = ((s.readByte s.regs.hl).toNat + 255) % 256 ∧
    FlagsSZP (t.readByte s.regs.hl) t.flags ∧
    (s.readByte s.regs.hl = 0x00 → t.flags.cy = true ∧ t.flags.ac = true) ∧
    (s.readByte s.regs.hl ≠ 0x00 →
      t.flags.cy = s.flags.cy ∧ t.flags.ac = decide ((t.readByte s.regs.hl).toNat % 16 ≠ 15)) ∧
    KeepsAllBut [] [s.regs.hl] s t ∧ t.sp = s.sp ∧ Advances .dcrM s t)

/-! ## The ALU group -/

/-- 43_arithmetic.md R250 to R255, 10_state.md R54: ADD, ADC, ADI and ACI, for every source operand. AC is the spec's
own derivation in R54. -/
def Obligations.AddAndAdcResults : Prop :=
  ∀ (x : Src) (s : State),
    (∃ t, exec (.alu .add x) s = .next t ∧ IsSum s.regs.a (s.src x) false t.regs.a t.flags ∧
      KeepsAllBut [.a] [] s t ∧ t.sp = s.sp ∧ Advances (.alu .add x) s t) ∧
    (∃ t, exec (.alu .adc x) s = .next t ∧ IsSum s.regs.a (s.src x) s.flags.cy t.regs.a t.flags ∧
      KeepsAllBut [.a] [] s t ∧ t.sp = s.sp ∧ Advances (.alu .adc x) s t)

/-- 43_arithmetic.md R256 to R261, 10_state.md R55: SUB, SBB, SUI and SBI, for every source operand. AC is the spec's
own decision D4. -/
def Obligations.SubAndSbbResults : Prop :=
  ∀ (x : Src) (s : State),
    (∃ t, exec (.alu .sub x) s = .next t ∧ IsDifference s.regs.a (s.src x) false t.regs.a t.flags ∧
      KeepsAllBut [.a] [] s t ∧ t.sp = s.sp ∧ Advances (.alu .sub x) s t) ∧
    (∃ t, exec (.alu .sbb x) s = .next t ∧ IsDifference s.regs.a (s.src x) s.flags.cy t.regs.a t.flags ∧
      KeepsAllBut [.a] [] s t ∧ t.sp = s.sp ∧ Advances (.alu .sbb x) s t)

/-- 44_logic_compare.md R280 to R288, 10_state.md R56 to R58: ANA, XRA, ORA and their immediates, for every source
operand. AC is the spec's own decision D5. -/
def Obligations.LogicResults : Prop :=
  ∀ (x : Src) (s : State),
    (∃ t, exec (.alu .ana x) s = .next t ∧ t.regs.a = s.regs.a &&& s.src x ∧ FlagsSZP t.regs.a t.flags ∧
      t.flags.cy = false ∧ t.flags.ac = (s.regs.a.getLsbD 3 || (s.src x).getLsbD 3) ∧
      KeepsAllBut [.a] [] s t ∧ t.sp = s.sp ∧ Advances (.alu .ana x) s t) ∧
    (∃ t, exec (.alu .xra x) s = .next t ∧ t.regs.a = s.regs.a ^^^ s.src x ∧ FlagsSZP t.regs.a t.flags ∧
      t.flags.cy = false ∧ t.flags.ac = false ∧
      KeepsAllBut [.a] [] s t ∧ t.sp = s.sp ∧ Advances (.alu .xra x) s t) ∧
    (∃ t, exec (.alu .ora x) s = .next t ∧ t.regs.a = s.regs.a ||| s.src x ∧ FlagsSZP t.regs.a t.flags ∧
      t.flags.cy = false ∧ t.flags.ac = false ∧
      KeepsAllBut [.a] [] s t ∧ t.sp = s.sp ∧ Advances (.alu .ora x) s t)

/-- 44_logic_compare.md R289 to R291, 10_state.md R59: CMP and CPI set the flags of A - operand and keep A; Z is set
exactly when they are equal and CY exactly when A is below. AC is the spec's own decision D4. -/
def Obligations.CompareResults : Prop :=
  ∀ (x : Src) (s : State), ∃ t, exec (.alu .cmp x) s = .next t ∧
    (∃ r, IsDifference s.regs.a (s.src x) false r t.flags) ∧
    (t.flags.z = true ↔ s.regs.a = s.src x) ∧ (t.flags.cy = true ↔ s.regs.a.toNat < (s.src x).toNat) ∧
    KeepsAllBut [] [] s t ∧ t.sp = s.sp ∧ Advances (.alu .cmp x) s t

/-! ## Rotate, carry, decimal adjust -/

/-- 45_rotate_carry_daa.md R300 to R303: the four rotates write A and CY alone. -/
def Obligations.RotateResults : Prop :=
  ∀ s : State,
    (∃ t, exec .rlc s = .next t ∧ t.regs.a.toNat = (s.regs.a.toNat * 2 + s.regs.a.toNat / 128) % 256 ∧
      t.flags = { s.flags with cy := decide (128 ≤ s.regs.a.toNat) } ∧
      KeepsAllBut [.a] [] s t ∧ t.sp = s.sp ∧ Advances .rlc s t) ∧
    (∃ t, exec .rrc s = .next t ∧ t.regs.a.toNat = s.regs.a.toNat / 2 + s.regs.a.toNat % 2 * 128 ∧
      t.flags = { s.flags with cy := decide (s.regs.a.toNat % 2 = 1) } ∧
      KeepsAllBut [.a] [] s t ∧ t.sp = s.sp ∧ Advances .rrc s t) ∧
    (∃ t, exec .ral s = .next t ∧ t.regs.a.toNat = (s.regs.a.toNat * 2 + s.flags.cy.toNat) % 256 ∧
      t.flags = { s.flags with cy := decide (128 ≤ s.regs.a.toNat) } ∧
      KeepsAllBut [.a] [] s t ∧ t.sp = s.sp ∧ Advances .ral s t) ∧
    (∃ t, exec .rar s = .next t ∧ t.regs.a.toNat = s.regs.a.toNat / 2 + s.flags.cy.toNat * 128 ∧
      t.flags = { s.flags with cy := decide (s.regs.a.toNat % 2 = 1) } ∧
      KeepsAllBut [.a] [] s t ∧ t.sp = s.sp ∧ Advances .rar s t)

/-- 45_rotate_carry_daa.md R304 to R306: CMA, CMC, STC. -/
def Obligations.ComplementAndCarryResults : Prop :=
  ∀ s : State,
    (∃ t, exec .cma s = .next t ∧ t.regs.a.toNat = 255 - s.regs.a.toNat ∧ t.flags = s.flags ∧
      KeepsAllBut [.a] [] s t ∧ t.sp = s.sp ∧ Advances .cma s t) ∧
    (∃ t, exec .cmc s = .next t ∧ t.flags = { s.flags with cy := !s.flags.cy } ∧
      KeepsAllBut [] [] s t ∧ t.sp = s.sp ∧ Advances .cmc s t) ∧
    (∃ t, exec .stc s = .next t ∧ t.flags = { s.flags with cy := true } ∧
      KeepsAllBut [] [] s t ∧ t.sp = s.sp ∧ Advances .stc s t)

/-- 45_rotate_carry_daa.md R307, 10_state.md R63: DAA under either value of `DAA_CARRY`. The reading of the adjust is
the spec's own decision D7. -/
def Obligations.DaaResult : Prop :=
  ∀ s : State, ∃ t, exec .daa s = .next t ∧
    IsDecimalAdjust s.cfg.daaCarry s.regs.a s.flags t.regs.a t.flags ∧
    KeepsAllBut [.a] [] s t ∧ t.sp = s.sp ∧ Advances .daa s t

/-- 45_rotate_carry_daa.md R307 (§8's property): ACI of packed decimal x and y with a carry c, then DAA, leaves the
packed decimal sum modulo 100 in A and its hundred in CY under `DAA_CARRY = Wide`. `Wide` is the spec's own decision
D7. -/
def Obligations.DaaMakesThePackedDecimalSum : Prop :=
  ∀ (x y : Nat) (s : State), x < 100 → y < 100 → s.regs.a = packedBcd x → s.cfg.daaCarry = .wide →
    ∃ t u, exec (.aci (packedBcd y)) s = .next t ∧ exec .daa t = .next u ∧
      u.regs.a = packedBcd ((x + y + s.flags.cy.toNat) % 100) ∧
      u.flags.cy = decide (100 ≤ x + y + s.flags.cy.toNat)

/-! ## Branches -/

/-- 46_branch.md R320, R321, 10_state.md R66: JMP, Jcc taken and not taken. -/
def Obligations.JumpResults : Prop :=
  (∀ (w : Word) (s : State), ∃ t, exec (.jmp w) s = .next t ∧ t.pc = w ∧ KeepsAllBut [] [] s t ∧ t.flags = s.flags ∧
    t.sp = s.sp ∧ Reports (.jmp w) false s t) ∧
  (∀ (cnd : Cond) (w : Word) (s : State), ∃ t, exec (.jcc cnd w) s = .next t ∧ KeepsAllBut [] [] s t ∧
    t.flags = s.flags ∧ t.sp = s.sp ∧
    (CondTrue cnd s.flags → t.pc = w ∧ Reports (.jcc cnd w) true s t) ∧
    (¬ CondTrue cnd s.flags → Advances (.jcc cnd w) s t))

/-- 46_branch.md R322, R326, 10_state.md R44: CALL, when the self-test intercept does not take it, and RST push the
address of the next instruction, high byte at SP-1 and low byte at SP-2, lower SP by 2 and go to their targets. RST is
the spec's own decision D13. -/
def Obligations.CallAndRestartResults : Prop :=
  ∀ (s : State) (hi lo : Word), stackAddr s.cfg s.sp (-1) = .ok hi → stackAddr s.cfg s.sp (-2) = .ok lo →
    (∀ w : Word, harnessStatus w s = none → ∃ t, exec (.call w) s = .next t ∧ t.pc = w ∧ t.sp = s.sp - 2 ∧
      t.readByte hi = hi8 (s.pc + 3) ∧ t.readByte lo = lo8 (s.pc + 3) ∧ KeepsAllBut [] [hi, lo] s t ∧
      t.flags = s.flags ∧ Reports (.call w) false s t) ∧
    (∀ n : Fin 8, ∃ t, exec (.rst n) s = .next t ∧ t.pc.toNat = n.val * 8 ∧ t.sp = s.sp - 2 ∧
      t.readByte hi = hi8 (s.pc + 1) ∧ t.readByte lo = lo8 (s.pc + 1) ∧ KeepsAllBut [] [hi, lo] s t ∧
      t.flags = s.flags ∧ Reports (.rst n) false s t)

/-- 46_branch.md R323: Ccc calls when its condition holds; when it fails it touches neither SP nor memory. That the
self-test intercept leaves Ccc alone is the spec's own decision D26. -/
def Obligations.ConditionalCallResults : Prop :=
  (∀ (cnd : Cond) (w : Word) (s : State) (hi lo : Word), CondTrue cnd s.flags → stackAddr s.cfg s.sp (-1) = .ok hi →
    stackAddr s.cfg s.sp (-2) = .ok lo → ∃ t, exec (.ccc cnd w) s = .next t ∧ t.pc = w ∧ t.sp = s.sp - 2 ∧
      t.readByte hi = hi8 (s.pc + 3) ∧ t.readByte lo = lo8 (s.pc + 3) ∧ KeepsAllBut [] [hi, lo] s t ∧
      t.flags = s.flags ∧ Reports (.ccc cnd w) true s t) ∧
  (∀ (cnd : Cond) (w : Word) (s : State), ¬ CondTrue cnd s.flags → ∃ t, exec (.ccc cnd w) s = .next t ∧
    KeepsAllBut [] [] s t ∧ t.flags = s.flags ∧ t.sp = s.sp ∧ Advances (.ccc cnd w) s t)

/-- 46_branch.md R324, R325, 10_state.md R45, 60_exceptions.md R415: RET and a taken Rcc pop PC and raise SP by 2;
INTE stays as it was. The order of the two bytes is the spec's own derivation in R45. -/
def Obligations.ReturnResults : Prop :=
  (∀ (s : State) (lo hi : Word), stackAddr s.cfg s.sp 0 = .ok lo → stackAddr s.cfg s.sp 1 = .ok hi →
    (∃ t, exec .ret s = .next t ∧ t.pc = pair (s.readByte hi) (s.readByte lo) ∧ t.sp = s.sp + 2 ∧
      KeepsAllBut [] [] s t ∧ t.flags = s.flags ∧ Reports .ret false s t) ∧
    (∀ cnd : Cond, CondTrue cnd s.flags → ∃ t, exec (.rcc cnd) s = .next t ∧
      t.pc = pair (s.readByte hi) (s.readByte lo) ∧ t.sp = s.sp + 2 ∧
      KeepsAllBut [] [] s t ∧ t.flags = s.flags ∧ Reports (.rcc cnd) true s t)) ∧
  (∀ (cnd : Cond) (s : State), ¬ CondTrue cnd s.flags → ∃ t, exec (.rcc cnd) s = .next t ∧
    KeepsAllBut [] [] s t ∧ t.flags = s.flags ∧ t.sp = s.sp ∧ Advances (.rcc cnd) s t)

/-- 46_branch.md R324 (§8's call/return discipline): CALL and then RET come back to the address after the CALL with SP
and the registers and flags as they were, under the default stack policy. The default stack policy is the spec's own
decision D10. -/
def Obligations.CallThenReturnComesBack : Prop :=
  ∀ (w : Word) (s : State), s.cfg.stackAddrPolicy = .wrap → harnessStatus w s = none →
    ∃ t u, exec (.call w) s = .next t ∧ exec .ret t = .next u ∧ u.pc = s.pc + 3 ∧ u.sp = s.sp ∧ u.regs = s.regs ∧
      u.flags = s.flags ∧ u.inte = s.inte

/-! ## Stack and exchange -/

/-- 20_memory.md R93, R94: base + k when that is within 0..0xFFFF; otherwise the wrapped address under `Wrap` and the
address past the end under `Fault`; for fetch and data by one policy, for the stack by the other. The policies are the
spec's own decisions D9 and D10. -/
def Obligations.AddressPastTheEndFollowsThePolicy : Prop :=
  ∀ (cfg : Config) (base : Word) (k : Int),
    let n : Int := base.toNat + k
    (0 ≤ n ∧ n ≤ 0xFFFF → ∃ a b : Word, dataAddr cfg base k = .ok a ∧ stackAddr cfg base k = .ok b ∧
      (a.toNat : Int) = n ∧ (b.toNat : Int) = n) ∧
    (¬ (0 ≤ n ∧ n ≤ 0xFFFF) →
      (cfg.dataAddrPolicy = .fault → dataAddr cfg base k = .error n) ∧
      (cfg.dataAddrPolicy = .wrap → ∃ a : Word, dataAddr cfg base k = .ok a ∧ (a.toNat : Int) = n % 65536) ∧
      (cfg.stackAddrPolicy = .fault → stackAddr cfg base k = .error n) ∧
      (cfg.stackAddrPolicy = .wrap → ∃ a : Word, stackAddr cfg base k = .ok a ∧ (a.toNat : Int) = n % 65536))

/-- 60_exceptions.md R403, 46_branch.md, 47_stack_exchange.md: under `STACK_ADDR_POLICY = Fault` a push with SP 0x0000
or 0x0001 and a pop or XTHL with SP 0xFFFF is the fatal condition AddressOutOfRange. The address named is that of the
first byte past the end in the order of R44, R45 and R355. The policy is the spec's own decision D10; which address is
named is the model's reading (log 12), and which PC an interrupt entry records its choice (log 16). -/
def Obligations.StackAccessPastTheEndFaults : Prop :=
  ∀ s : State, s.cfg.stackAddrPolicy = .fault →
    (s.sp = 0x0000 ∨ s.sp = 0x0001 →
      (∀ p, exec (.push p) s = .fault (.addressOutOfRange (-1) s.pc)) ∧
      exec .pushPSW s = .fault (.addressOutOfRange (-1) s.pc) ∧
      (∀ w, harnessStatus w s = none → exec (.call w) s = .fault (.addressOutOfRange (-1) s.pc)) ∧
      (∀ cnd w, CondTrue cnd s.flags → exec (.ccc cnd w) s = .fault (.addressOutOfRange (-1) s.pc)) ∧
      (∀ n, exec (.rst n) s = .fault (.addressOutOfRange (-1) s.pc)) ∧
      (s.inte = true → ∀ n, interrupt n s = .fault (.addressOutOfRange (-1) s.pc))) ∧
    (s.sp = 0xFFFF →
      (∀ p, exec (.pop p) s = .fault (.addressOutOfRange 0x10000 s.pc)) ∧
      exec .popPSW s = .fault (.addressOutOfRange 0x10000 s.pc) ∧
      exec .ret s = .fault (.addressOutOfRange 0x10000 s.pc) ∧
      (∀ cnd, CondTrue cnd s.flags → exec (.rcc cnd) s = .fault (.addressOutOfRange 0x10000 s.pc)) ∧
      exec .xthl s = .fault (.addressOutOfRange 0x10000 s.pc))

/-- 47_stack_exchange.md R350, R351, 10_state.md R42: PUSH of a pair and of the PSW. The flag byte is the spec's own
decision D3. -/
def Obligations.PushResults : Prop :=
  ∀ (s : State) (hi lo : Word), stackAddr s.cfg s.sp (-1) = .ok hi → stackAddr s.cfg s.sp (-2) = .ok lo →
    (∀ p : StackPair, ∃ t, exec (.push p) s = .next t ∧ t.sp = s.sp - 2 ∧
      t.readByte hi = s.reg (stackPairRegs p).1 ∧ t.readByte lo = s.reg (stackPairRegs p).2 ∧
      KeepsAllBut [] [hi, lo] s t ∧ t.flags = s.flags ∧ Advances (.push p) s t) ∧
    (∃ t, exec .pushPSW s = .next t ∧ t.sp = s.sp - 2 ∧ t.readByte hi = s.regs.a ∧
      (t.readByte lo).toNat = s.flags.s.toNat * 128 + s.flags.z.toNat * 64 + s.flags.ac.toNat * 16 +
        s.flags.p.toNat * 4 + 2 + s.flags.cy.toNat ∧
      KeepsAllBut [] [hi, lo] s t ∧ t.flags = s.flags ∧ Advances .pushPSW s t)

/-- 47_stack_exchange.md R352, R353, 10_state.md R43: POP of a pair and of the PSW. The flag byte is the spec's own
decision D3. -/
def Obligations.PopResults : Prop :=
  ∀ (s : State) (lo hi : Word), stackAddr s.cfg s.sp 0 = .ok lo → stackAddr s.cfg s.sp 1 = .ok hi →
    (∀ p : StackPair, ∃ t, exec (.pop p) s = .next t ∧ t.sp = s.sp + 2 ∧
      t.reg (stackPairRegs p).1 = s.readByte hi ∧ t.reg (stackPairRegs p).2 = s.readByte lo ∧
      KeepsAllBut [(stackPairRegs p).1, (stackPairRegs p).2] [] s t ∧ t.flags = s.flags ∧ Advances (.pop p) s t) ∧
    (∃ t, exec .popPSW s = .next t ∧ t.sp = s.sp + 2 ∧ t.regs.a = s.readByte hi ∧
      t.flags.s = (s.readByte lo).getLsbD 7 ∧ t.flags.z = (s.readByte lo).getLsbD 6 ∧
      t.flags.ac = (s.readByte lo).getLsbD 4 ∧ t.flags.p = (s.readByte lo).getLsbD 2 ∧
      t.flags.cy = (s.readByte lo).getLsbD 0 ∧
      KeepsAllBut [.a] [] s t ∧ Advances .popPSW s t)

/-- 47_stack_exchange.md R350 to R353: POP after PUSH gives the pair, or A and all five flags, back, with SP as
before, under the default stack policy. The flag byte and the default stack policy are the spec's own decisions D3 and
D10. -/
def Obligations.PopAfterPushRestores : Prop :=
  ∀ s : State, s.cfg.stackAddrPolicy = .wrap →
    (∀ p : StackPair, ∃ t u, exec (.push p) s = .next t ∧ exec (.pop p) t = .next u ∧ u.regs = s.regs ∧
      u.flags = s.flags ∧ u.sp = s.sp) ∧
    (∃ t u, exec .pushPSW s = .next t ∧ exec .popPSW t = .next u ∧ u.regs = s.regs ∧ u.flags = s.flags ∧
      u.sp = s.sp)

/-- 47_stack_exchange.md R354 to R356, 46_branch.md R327: XCHG, XTHL, SPHL, PCHL. They are the spec's own decisions D2
and D13. -/
def Obligations.ExchangeAndHlTransferResults : Prop :=
  (∀ s : State, ∃ t, exec .xchg s = .next t ∧ t.regs.d = s.regs.h ∧ t.regs.e = s.regs.l ∧ t.regs.h = s.regs.d ∧
    t.regs.l = s.regs.e ∧ KeepsAllBut [.d, .e, .h, .l] [] s t ∧ t.flags = s.flags ∧ t.sp = s.sp ∧
    Advances .xchg s t) ∧
  (∀ (s : State) (lo hi : Word), stackAddr s.cfg s.sp 0 = .ok lo → stackAddr s.cfg s.sp 1 = .ok hi →
    ∃ t, exec .xthl s = .next t ∧ t.regs.l = s.readByte lo ∧ t.regs.h = s.readByte hi ∧
      t.readByte lo = s.regs.l ∧ t.readByte hi = s.regs.h ∧ KeepsAllBut [.h, .l] [lo, hi] s t ∧
      t.flags = s.flags ∧ t.sp = s.sp ∧ Advances .xthl s t) ∧
  (∀ s : State, ∃ t, exec .sphl s = .next t ∧ t.sp.toNat = s.regs.h.toNat * 256 + s.regs.l.toNat ∧
    KeepsAllBut [] [] s t ∧ t.flags = s.flags ∧ Advances .sphl s t) ∧
  (∀ s : State, ∃ t, exec .pchl s = .next t ∧ t.pc.toNat = s.regs.h.toNat * 256 + s.regs.l.toNat ∧
    KeepsAllBut [] [] s t ∧ t.flags = s.flags ∧ t.sp = s.sp ∧ Reports .pchl false s t)

/-! ## Input, output, interrupt enable, halt -/

/-- 48_io_interrupt_control.md R370, 60_exceptions.md R402, R436 to R439: IN of ports 1, 2 and 3, and the fatal condition
of every other port. -/
def Obligations.InputResults : Prop :=
  (∀ s : State, ∃ t, exec (.inPort 1) s = .next t ∧ t.regs.a = s.ports.in1 ||| 0x08 ∧ t.regs.a.getLsbD 3 = true ∧
    KeepsAllBut [.a] [] s t ∧ t.flags = s.flags ∧ t.sp = s.sp ∧ Advances (.inPort 1) s t) ∧
  (∀ s : State, ∃ t, exec (.inPort 2) s = .next t ∧ t.regs.a = s.ports.in2 ∧
    KeepsAllBut [.a] [] s t ∧ t.flags = s.flags ∧ t.sp = s.sp ∧ Advances (.inPort 2) s t) ∧
  (∀ s : State, ∃ t, exec (.inPort 3) s = .next t ∧
    (∀ j, j < 8 → t.regs.a.getLsbD j = s.ports.shiftValue.getLsbD (8 - s.ports.shiftOffset.toNat + j)) ∧
    KeepsAllBut [.a] [] s t ∧ t.flags = s.flags ∧ t.sp = s.sp ∧ Advances (.inPort 3) s t) ∧
  (∀ (p : Byte) (s : State), p ≠ 1 → p ≠ 2 → p ≠ 3 → exec (.inPort p) s = .fault (.unsupportedInPort p))

/-- 48_io_interrupt_control.md R371, 60_exceptions.md R431 to R435: OUT of every port. -/
def Obligations.OutputResults : Prop :=
  ∀ (p : Byte) (s : State), ∃ io,
    exec (.outPort p) s = .next { s with
      ports := io, pc := s.pc + 2, report := { status := .cont, cycles := cycleTable s.cfg 0xD3 false } } ∧
    (p = 2 → io.shiftOffset.toNat = s.regs.a.toNat % 8 ∧ io = { s.ports with shiftOffset := io.shiftOffset }) ∧
    (p = 3 → io = { s.ports with out3 := s.regs.a }) ∧
    (p = 4 → io.shiftValue.toNat = s.regs.a.toNat * 256 + s.ports.shiftValue.toNat / 256 ∧
      io = { s.ports with shiftValue := io.shiftValue }) ∧
    (p = 5 → io = { s.ports with out5 := s.regs.a }) ∧
    (p ≠ 2 → p ≠ 3 → p ≠ 4 → p ≠ 5 → io = s.ports)

/-- 48_io_interrupt_control.md R372 to R374: EI, DI and HLT. HLT is the spec's own decision D12, and EI without delay
D14. -/
def Obligations.EnableDisableAndHaltResults : Prop :=
  ∀ s : State,
    exec .ei s = .next { s with
      inte := true, pc := s.pc + 1, report := { status := .cont, cycles := cycleTable s.cfg 0xFB false } } ∧
    exec .di s = .next { s with
      inte := false, pc := s.pc + 1, report := { status := .cont, cycles := cycleTable s.cfg 0xF3 false } } ∧
    exec .hlt s = .next { s with
      halted := true, pc := s.pc + 1, report := { status := .cont, cycles := cycleTable s.cfg 0x76 false } }

/-! ## Fatal conditions, interrupts, the self-test -/

/-- 30_encoding.md R133: each of the twelve illegal rows is the fatal condition IllegalOpcode with its byte and the PC;
60_exceptions.md R401 to R403: the fatal conditions have the codes 1, 2 and 3. Which rows are illegal and the codes are
the spec's own decisions D2 and D18. That a row faults when it is executed, whatever UNIMPLEMENTED is, is the model's
reading (log 14): in R401 the decoder raises the condition and no instruction does. -/
def Obligations.IllegalRowsRaiseIllegalOpcode : Prop :=
  (∀ (i : Instr) (s : State), i.wellFormed = false → exec i s = .fault (.illegalOpcode i.opcode s.pc)) ∧
  (∀ (op : Byte) (pc : Word), (Fault.illegalOpcode op pc).code = 1) ∧
  (∀ p : Byte, (Fault.unsupportedInPort p).code = 2) ∧
  (∀ (n : Int) (pc : Word), (Fault.addressOutOfRange n pc).code = 3)

/-- 60_exceptions.md R411 to R414: a request while INTE is clear changes nothing; an accepted one clears INTE and
halted, pushes PC as CALL does, and goes to 0x0008 or 0x0010; nothing else changes. That entry clears halted is the
spec's own decision D12. -/
def Obligations.InterruptEntryResult : Prop :=
  (∀ (n : IrqLine) (s : State), s.inte = false → interrupt n s = .next s) ∧
  (∀ (n : IrqLine) (s : State) (hi lo : Word), s.inte = true → stackAddr s.cfg s.sp (-1) = .ok hi →
    stackAddr s.cfg s.sp (-2) = .ok lo →
    ∃ t, interrupt n s = .next t ∧ t.inte = false ∧ t.halted = false ∧
      t.pc = (match n with | .line1 => 0x0008 | .line2 => 0x0010) ∧ t.sp = s.sp - 2 ∧
      t.readByte hi = hi8 s.pc ∧ t.readByte lo = lo8 s.pc ∧
      (∀ a, a ≠ hi → a ≠ lo → t.readByte a = s.readByte a) ∧ t.regs = s.regs ∧ t.flags = s.flags ∧
      t.ports = s.ports ∧ t.frame = s.frame ∧ t.report = s.report ∧ t.env = s.env ∧ t.draws = s.draws ∧
      t.cfg = s.cfg)

/-- 70_reset_and_hazards.md R512, 60_exceptions.md R414: a request at the boundary right after EI is accepted and one
right after DI is lost, under the default stack policy. It is the spec's own decision D14. -/
def Obligations.EnableAndDisableTakeEffectAtOnce : Prop :=
  ∀ (n : IrqLine) (s : State), s.cfg.stackAddrPolicy = .wrap →
    (∃ t u, exec .ei s = .next t ∧ interrupt n t = .next u ∧ u.pc = n.vector ∧ u.inte = false ∧ u.sp = s.sp - 2) ∧
    (∃ t, exec .di s = .next t ∧ interrupt n t = .next t)

/-- 60_exceptions.md R407, R448, 92 D26, D27: CALL 5 with C = 9 and DE = 0x0174 or 0x018B ends the run with
Success(message) or Failure(message) and changes nothing, when TEST_HARNESS is true; every other CALL is a real one; and
no step follows. That nothing changes and that no step follows are the spec's own decisions D26 and D27; SP+1 is taken
modulo 2^16 (log 9), and the text of the message is a free value, one for each value of the model's own count of them
(log 17). -/
def Obligations.SelfTestInterceptEndsTheRun : Prop :=
  (∀ s : State, s.cfg.testHarness = true → s.regs.c = 0x09 → s.regs.d = 0x01 → s.regs.e = 0x74 →
    exec (.call 0x0005) s = .next { s with
      draws := s.draws + 1,
      report := { status := .success (Config.freeMessage s.draws), cycles := cycleTable s.cfg 0xCD false } }) ∧
  (∀ s : State, s.cfg.testHarness = true → s.regs.c = 0x09 → s.regs.d = 0x01 → s.regs.e = 0x8B →
    exec (.call 0x0005) s = .next { s with
      draws := s.draws + 1,
      report := { status := .failure (Config.freeMessage s.draws)
                    (((s.readByte (s.sp + 1)).toNat * 256 + (s.readByte s.sp).toNat : Int) - 6),
                  cycles := cycleTable s.cfg 0xCD false } }) ∧
  (∀ (w : Word) (s : State), s.cfg.testHarness = false ∨ w ≠ 0x0005 ∨ s.regs.c ≠ 0x09 ∨ s.regs.d ≠ 0x01 ∨
    (s.regs.e ≠ 0x74 ∧ s.regs.e ≠ 0x8B) →
    exec (.call w) s = callTo 0xCD false (s.pc + 3) w s) ∧
  (∀ (s : State) (m : String) (b : Int), s.report.status = .success m ∨ s.report.status = .failure m b →
    step s = .refused .runEnded)

/-! ## The schedules -/

/-- 60_exceptions.md R420, R417: what the frame scheduler does at a boundary in its first half below HALF_FRAME_CYCLES,
at it and below CYCLES_PER_FRAME, and at both, where line 2 is raised right after line 1 and is lost if line 1 was
accepted; in its second half below and at CYCLES_PER_FRAME (with HALF_FRAME_CYCLES above 0 wherever a new frame begins);
and that a step's cycles are added to its count. That entry adds no cycles is the spec's own decision D28, and the
overshoot the spec's own derivation in R417. -/
def Obligations.FrameSchedulerRaisesBothLines : Prop :=
  (∀ s : State, s.cfg.schedule = .frame → s.frame.half = .first → s.frame.cycles < s.cfg.halfFrameCycles →
    boundary s = .next (takeEvent s)) ∧
  (∀ s : State, s.cfg.schedule = .frame → s.frame.half = .first → s.cfg.halfFrameCycles ≤ s.frame.cycles →
    s.frame.cycles < s.cfg.cyclesPerFrame →
    boundary s = interrupt .line1 { takeEvent s with frame := { s.frame with half := .second } }) ∧
  (∀ s : State, s.cfg.schedule = .frame → s.frame.half = .second → s.frame.cycles < s.cfg.cyclesPerFrame →
    boundary s = .next (takeEvent s)) ∧
  (∀ s : State, s.cfg.schedule = .frame → s.frame.half = .second → s.cfg.cyclesPerFrame ≤ s.frame.cycles →
    0 < s.cfg.halfFrameCycles →
    boundary s = interrupt .line2
      { takeEvent s with frame := { cycles := 0, half := .first, returned := s.frame.cycles } }) ∧
  (∀ s : State, s.cfg.schedule = .frame → s.frame.half = .first → s.cfg.halfFrameCycles ≤ s.frame.cycles →
    s.cfg.cyclesPerFrame ≤ s.frame.cycles → 0 < s.cfg.halfFrameCycles →
    boundary s = chain (interrupt .line1 { takeEvent s with frame := { s.frame with half := .second } }) (fun t =>
      interrupt .line2 { t with frame := { cycles := 0, half := .first, returned := s.frame.cycles } }) ∧
    (s.inte = true → boundary s = interrupt .line1
      { takeEvent s with frame := { cycles := 0, half := .first, returned := s.frame.cycles } })) ∧
  (∀ s t u : State, s.cfg.schedule = .frame → boundary s = .next t → step s = .next u →
    u.frame = { t.frame with cycles := t.frame.cycles + u.report.cycles })

/-- 60_exceptions.md R421: a whole frame returns a count of at least CYCLES_PER_FRAME: a step that changes the count
the last frame returned leaves one that is not below the budget. It is the spec's own derivation from R420. -/
def Obligations.FrameReturnsAtLeastItsBudget : Prop :=
  ∀ s t : State, s.cfg.schedule = .frame → step s = .next t → t.frame.returned ≠ s.frame.returned →
    t.cfg.cyclesPerFrame ≤ t.frame.returned

/-- 60_exceptions.md R418: `Free` admits every run `Frame` admits: for every state under `Frame` and every number of steps
there are events, one for each step, under which `Free` makes the same run from the same core: after each number k of
steps it is in the same core with the same report and parameters, the events that are left being those after the first k,
or it has ended in the same fatal condition or refusal. The two schedules are the spec's own decision D15, and the list
of events is the model's own (log 6). -/
def Obligations.FreeAdmitsEveryRunOfFrame : Prop :=
  ∀ (n : Nat) (s : State) (fixed : Frame), s.cfg.schedule = .frame →
    ∃ events : List Boundary, events.length = n ∧ ∀ k, k ≤ n →
      (∀ t, Sys2Proof.core.run k s = .next t →
        Sys2Proof.core.run k (asFree fixed events s) = .next (asFree fixed (events.drop k) t)) ∧
      (∀ x, Sys2Proof.core.run k s = .fault x → Sys2Proof.core.run k (asFree fixed events s) = .fault x) ∧
      (∀ x, Sys2Proof.core.run k s = .refused x → Sys2Proof.core.run k (asFree fixed events s) = .refused x)

/-- 70_reset_and_hazards.md R520, R521: the default CYCLE_TABLE. The table is the spec's own decision D19. -/
def Obligations.DefaultCyclesAreTheTables : Prop :=
  ∀ (cfg : Config) (b : Bool), cfg.cycleEntries = [] →
    (∀ op ∈ [0x00#8, 0x07#8, 0x0F#8, 0x17#8, 0x1F#8, 0x27#8, 0x2F#8, 0x37#8, 0x3F#8, 0xEB#8, 0xF3#8, 0xFB#8],
      cycleTable cfg op b = 4) ∧
    (∀ p : Pair, ∀ v, cycleTable cfg (Instr.lxi p v).opcode b = 10 ∧ cycleTable cfg (Instr.inx p).opcode b = 5 ∧
      cycleTable cfg (Instr.dcx p).opcode b = 5 ∧ cycleTable cfg (Instr.dad p).opcode b = 10) ∧
    (∀ p : AddrPair, cycleTable cfg (Instr.stax p).opcode b = 7 ∧ cycleTable cfg (Instr.ldax p).opcode b = 7) ∧
    (∀ r : Reg, ∀ v, cycleTable cfg (Instr.inr r).opcode b = 5 ∧ cycleTable cfg (Instr.dcr r).opcode b = 5 ∧
      cycleTable cfg (Instr.mvi r v).opcode b = 7 ∧ cycleTable cfg (Instr.movFromM r).opcode b = 7 ∧
      cycleTable cfg (Instr.movToM r).opcode b = 7) ∧
    (∀ dst r : Reg, cycleTable cfg (Instr.mov dst r).opcode b = 5) ∧
    (∀ op ∈ [0x34#8, 0x35#8, 0x36#8, 0xC3#8, 0xC9#8, 0xD3#8, 0xDB#8], cycleTable cfg op b = 10) ∧
    (∀ op ∈ [0x22#8, 0x2A#8], cycleTable cfg op b = 16) ∧ (∀ op ∈ [0x32#8, 0x3A#8], cycleTable cfg op b = 13) ∧
    cycleTable cfg 0x76 b = 7 ∧
    (∀ (k : AluOp) (r : Reg), cycleTable cfg (Instr.alu k (.reg r)).opcode b = 4) ∧
    (∀ (k : AluOp) (v : Byte), cycleTable cfg (Instr.alu k .mem).opcode b = 7 ∧
      cycleTable cfg (Instr.alu k (.imm v)).opcode b = 7) ∧
    (∀ (cnd : Cond) (w : Word), cycleTable cfg (Instr.jcc cnd w).opcode b = 10 ∧
      cycleTable cfg (Instr.ccc cnd w).opcode b = (if b then 17 else 11) ∧
      cycleTable cfg (Instr.rcc cnd).opcode b = (if b then 11 else 5)) ∧
    cycleTable cfg 0xCD b = 17 ∧ (∀ n : Fin 8, cycleTable cfg (Instr.rst n).opcode b = 11) ∧
    (∀ op ∈ [0xC5#8, 0xD5#8, 0xE5#8, 0xF5#8], cycleTable cfg op b = 11) ∧
    (∀ op ∈ [0xC1#8, 0xD1#8, 0xE1#8, 0xF1#8], cycleTable cfg op b = 10) ∧
    cycleTable cfg 0xE3 b = 18 ∧ cycleTable cfg 0xE9 b = 5 ∧ cycleTable cfg 0xF9 b = 5
end

