-- ==== Sys2Proof/Laws/Memory.lean ====
section
/-! SUPPORT. The laws of the byte memory: a read after a write, and the canonical form, which every memory operation
keeps and in which equal contents are equal data. -/

namespace Sys2Proof.Machine.Memory

theorem read_erase_self (m : Memory) (a : Nat) : (m.erase a).read a = unlisted := by
  induction m with
  | nil => rfl
  | cons c rest ih =>
    by_cases h : c.1 = a
    · simpa [erase, h] using ih
    · simpa [erase, h, read] using ih

theorem read_erase_other (m : Memory) {a b : Nat} (h : b ≠ a) : (m.erase a).read b = m.read b := by
  induction m with
  | nil => rfl
  | cons c rest ih =>
    by_cases hc : c.1 = a
    · simpa [erase, hc, read, Ne.symm h] using ih
    · by_cases hb : c.1 = b
      · simp [erase, read, hb, h]
      · simpa [erase, hc, read, hb] using ih

theorem read_insert_other (m : Memory) {a b : Nat} (v : Byte) (h : b ≠ a) : (m.insert a v).read b = m.read b := by
  induction m with
  | nil => simp [insert, read, Ne.symm h]
  | cons c rest ih =>
    by_cases hl : a < c.1
    · simp [insert, hl, read, Ne.symm h]
    · simp [insert, hl, read, ih]

theorem read_insert_self (m : Memory) (a : Nat) (v : Byte) (h : ∀ c ∈ m, c.1 ≠ a) : (m.insert a v).read a = v := by
  induction m with
  | nil => simp [insert, read]
  | cons c rest ih =>
    by_cases hl : a < c.1
    · simp [insert, hl, read]
    · simp only [insert, hl, if_false, read, h c (by simp)]
      exact ih fun d hd => h d (by simp [hd])

theorem erase_ne (m : Memory) (a : Nat) : ∀ c ∈ m.erase a, c.1 ≠ a := by
  intro c hc
  simpa using (List.mem_filter.mp hc).2

/-- A read after a write to the same address gives the byte written. -/
@[simp] theorem read_write_self (m : Memory) (a : Nat) (v : Byte) : (m.write a v).read a = v := by
  by_cases h : v = unlisted
  · simp [write, h, read_erase_self]
  · simp [write, h, read_insert_self _ _ _ (erase_ne m a)]

/-- A write leaves every other address alone. -/
theorem read_write_other (m : Memory) {a b : Nat} (v : Byte) (h : b ≠ a) : (m.write a v).read b = m.read b := by
  by_cases hv : v = unlisted
  · simp [write, hv, read_erase_other m h]
  · simp [write, hv, read_insert_other _ v h, read_erase_other m h]

theorem read_write (m : Memory) (a b : Nat) (v : Byte) : (m.write a v).read b = if b = a then v else m.read b := by
  by_cases h : b = a
  · simp [h]
  · simp [h, read_write_other m v h]

/-! ## The canonical form -/

theorem wfFrom_mono {lo lo' : Nat} (m : Memory) (h : wfFrom lo m = true) (hl : lo' ≤ lo) : wfFrom lo' m = true := by
  cases m with
  | nil => rfl
  | cons c rest =>
    simp only [wfFrom, Bool.and_eq_true, decide_eq_true_eq] at h ⊢
    exact ⟨⟨⟨by omega, h.1.1.2⟩, h.1.2⟩, h.2⟩

theorem wfFrom_erase {lo : Nat} (m : Memory) (a : Nat) (h : wfFrom lo m = true) : wfFrom lo (m.erase a) = true := by
  induction m generalizing lo with
  | nil => rfl
  | cons c rest ih =>
    have hr : wfFrom (c.1 + 1) rest = true := by simp_all [wfFrom]
    have hlo : lo ≤ c.1 := by simp_all [wfFrom]
    by_cases hc : c.1 = a
    · simp only [erase, hc, List.filter_cons, bne_self_eq_false, Bool.false_eq_true, if_false]
      exact wfFrom_mono _ (ih hr) (by omega)
    · have he : erase (c :: rest) a = c :: erase rest a := by simp [erase, hc]
      simp only [he, wfFrom, Bool.and_eq_true] at h ⊢
      exact ⟨h.1, ih hr⟩

theorem wfFrom_insert {lo : Nat} (m : Memory) (a : Nat) (v : Byte) (h : wfFrom lo m = true) (hl : lo ≤ a)
    (ha : a < 65536) (hv : v ≠ unlisted) (hm : ∀ c ∈ m, c.1 ≠ a) : wfFrom lo (m.insert a v) = true := by
  induction m generalizing lo with
  | nil => simp [insert, wfFrom, hl, ha, hv]
  | cons c rest ih =>
    have hne := hm c (by simp)
    by_cases hlt : a < c.1
    · simp only [insert, hlt, if_true, wfFrom, Bool.and_eq_true, decide_eq_true_eq, bne_iff_ne, ne_eq] at h ⊢
      exact ⟨⟨⟨hl, ha⟩, hv⟩, ⟨⟨⟨by omega, h.1.1.2⟩, h.1.2⟩, h.2⟩⟩
    · simp only [insert, hlt, if_false, wfFrom, Bool.and_eq_true] at h ⊢
      exact ⟨h.1, ih h.2 (by omega) fun d hd => hm d (by simp [hd])⟩

/-- A write keeps the canonical form. -/
theorem wf_write (m : Memory) (a : Nat) (v : Byte) (h : m.wf = true) (ha : a < 65536) : (m.write a v).wf = true := by
  by_cases hv : v = unlisted
  · simpa [write, hv, wf] using wfFrom_erase m a h
  · simpa [write, hv, wf] using wfFrom_insert _ a v (wfFrom_erase m a h) (Nat.zero_le a) ha hv (erase_ne m a)

/-- Loading bytes keeps the canonical form. -/
theorem wf_writeBytes (m : Memory) (a : Nat) (bytes : List Byte) (h : m.wf = true) (ha : a + bytes.length ≤ 65536) :
    (m.writeBytes a bytes).wf = true := by
  induction bytes generalizing m a with
  | nil => exact h
  | cons v rest ih =>
    simp only [List.length_cons] at ha
    exact ih _ _ (wf_write m a v h (by omega)) (by omega)

theorem wf_nil : wf [] = true := rfl

theorem read_below {lo : Nat} (m : Memory) (h : wfFrom lo m = true) {a : Nat} (ha : a < lo) : m.read a = unlisted := by
  induction m generalizing lo with
  | nil => rfl
  | cons c rest ih =>
    simp only [wfFrom, Bool.and_eq_true, decide_eq_true_eq] at h
    have hne : ¬ c.1 = a := by omega
    simp only [read, hne, if_false]
    exact ih h.2 (by omega)

theorem eq_of_read_from {lo : Nat} (m n : Memory) (hm : wfFrom lo m = true) (hn : wfFrom lo n = true)
    (h : ∀ a, m.read a = n.read a) : m = n := by
  induction m generalizing lo n with
  | nil =>
    cases n with
    | nil => rfl
    | cons d rest =>
      have hd := h d.1
      simp only [read, if_true] at hd
      simp only [wfFrom, Bool.and_eq_true, bne_iff_ne, ne_eq] at hn
      exact absurd hd.symm hn.1.2
  | cons c rest ih =>
    cases n with
    | nil =>
      have hc := h c.1
      simp only [read, if_true] at hc
      simp only [wfFrom, Bool.and_eq_true, bne_iff_ne, ne_eq] at hm
      exact absurd hc hm.1.2
    | cons d rest' =>
      simp only [wfFrom, Bool.and_eq_true, decide_eq_true_eq, bne_iff_ne, ne_eq] at hm hn
      obtain ⟨⟨⟨hlc, -⟩, hcv⟩, hm'⟩ := hm
      obtain ⟨⟨⟨hld, -⟩, hdv⟩, hn'⟩ := hn
      have key : c.1 = d.1 := by
        rcases Nat.lt_trichotomy c.1 d.1 with hlt | heq | hgt
        · have hc := h c.1
          have hne : ¬ d.1 = c.1 := by omega
          simp only [read, if_true, hne, if_false] at hc
          exact absurd (hc.trans (read_below rest' hn' (by omega))) hcv
        · exact heq
        · have hd := h d.1
          have hne : ¬ c.1 = d.1 := by omega
          simp only [read, if_true, hne, if_false] at hd
          exact absurd (hd.symm.trans (read_below rest hm' (by omega))) hdv
      have hv : c.2 = d.2 := by
        have hc := h c.1
        simpa [read, key] using hc
      have hrest : rest = rest' := by
        refine ih rest' hm' (key ▸ hn') fun a => ?_
        by_cases ha : a < c.1 + 1
        · rw [read_below rest hm' ha, read_below rest' hn' (key ▸ ha)]
        · have hc : ¬ c.1 = a := by omega
          have hd : ¬ d.1 = a := by omega
          simpa [read, hc, hd] using h a
      rw [hrest, show c = d from Prod.ext key hv]

/-- In the canonical form, memories that read alike are equal. -/
theorem eq_of_read {m n : Memory} (hm : m.wf = true) (hn : n.wf = true) (h : ∀ a, m.read a = n.read a) : m = n :=
  eq_of_read_from m n hm hn h

end Sys2Proof.Machine.Memory
end

