-- ==== Sys2Proof/Laws/State.lean ====
section
/-! SUPPORT. One lemma per field per update of a state. -/

namespace Sys2Proof.Machine

@[simp] theorem State.writeByte_regs (s : State) (a : Word) (v : Byte) : (s.writeByte a v).regs = s.regs := rfl
@[simp] theorem State.writeByte_flags (s : State) (a : Word) (v : Byte) : (s.writeByte a v).flags = s.flags := rfl
@[simp] theorem State.writeByte_sp (s : State) (a : Word) (v : Byte) : (s.writeByte a v).sp = s.sp := rfl
@[simp] theorem State.writeByte_pc (s : State) (a : Word) (v : Byte) : (s.writeByte a v).pc = s.pc := rfl
@[simp] theorem State.writeByte_inte (s : State) (a : Word) (v : Byte) : (s.writeByte a v).inte = s.inte := rfl
@[simp] theorem State.writeByte_halted (s : State) (a : Word) (v : Byte) : (s.writeByte a v).halted = s.halted := rfl
@[simp] theorem State.writeByte_mem (s : State) (a : Word) (v : Byte) : (s.writeByte a v).mem = s.mem.write a.toNat v := rfl
@[simp] theorem State.writeByte_ports (s : State) (a : Word) (v : Byte) : (s.writeByte a v).ports = s.ports := rfl
@[simp] theorem State.writeByte_frame (s : State) (a : Word) (v : Byte) : (s.writeByte a v).frame = s.frame := rfl
@[simp] theorem State.writeByte_report (s : State) (a : Word) (v : Byte) : (s.writeByte a v).report = s.report := rfl
@[simp] theorem State.writeByte_env (s : State) (a : Word) (v : Byte) : (s.writeByte a v).env = s.env := rfl
@[simp] theorem State.writeByte_draws (s : State) (a : Word) (v : Byte) : (s.writeByte a v).draws = s.draws := rfl
@[simp] theorem State.writeByte_cfg (s : State) (a : Word) (v : Byte) : (s.writeByte a v).cfg = s.cfg := rfl

@[simp] theorem State.writeM_regs (s : State) (v : Byte) : (s.writeM v).regs = s.regs := rfl
@[simp] theorem State.writeM_flags (s : State) (v : Byte) : (s.writeM v).flags = s.flags := rfl
@[simp] theorem State.writeM_sp (s : State) (v : Byte) : (s.writeM v).sp = s.sp := rfl
@[simp] theorem State.writeM_pc (s : State) (v : Byte) : (s.writeM v).pc = s.pc := rfl
@[simp] theorem State.writeM_inte (s : State) (v : Byte) : (s.writeM v).inte = s.inte := rfl
@[simp] theorem State.writeM_halted (s : State) (v : Byte) : (s.writeM v).halted = s.halted := rfl
@[simp] theorem State.writeM_mem (s : State) (v : Byte) : (s.writeM v).mem = s.mem.write s.regs.hl.toNat v := rfl
@[simp] theorem State.writeM_ports (s : State) (v : Byte) : (s.writeM v).ports = s.ports := rfl
@[simp] theorem State.writeM_frame (s : State) (v : Byte) : (s.writeM v).frame = s.frame := rfl
@[simp] theorem State.writeM_report (s : State) (v : Byte) : (s.writeM v).report = s.report := rfl
@[simp] theorem State.writeM_env (s : State) (v : Byte) : (s.writeM v).env = s.env := rfl
@[simp] theorem State.writeM_draws (s : State) (v : Byte) : (s.writeM v).draws = s.draws := rfl
@[simp] theorem State.writeM_cfg (s : State) (v : Byte) : (s.writeM v).cfg = s.cfg := rfl

@[simp] theorem State.setReg_regs (s : State) (r : Reg) (v : Byte) : (s.setReg r v).regs = s.regs.set r v := rfl
@[simp] theorem State.setReg_flags (s : State) (r : Reg) (v : Byte) : (s.setReg r v).flags = s.flags := rfl
@[simp] theorem State.setReg_sp (s : State) (r : Reg) (v : Byte) : (s.setReg r v).sp = s.sp := rfl
@[simp] theorem State.setReg_pc (s : State) (r : Reg) (v : Byte) : (s.setReg r v).pc = s.pc := rfl
@[simp] theorem State.setReg_inte (s : State) (r : Reg) (v : Byte) : (s.setReg r v).inte = s.inte := rfl
@[simp] theorem State.setReg_halted (s : State) (r : Reg) (v : Byte) : (s.setReg r v).halted = s.halted := rfl
@[simp] theorem State.setReg_mem (s : State) (r : Reg) (v : Byte) : (s.setReg r v).mem = s.mem := rfl
@[simp] theorem State.setReg_ports (s : State) (r : Reg) (v : Byte) : (s.setReg r v).ports = s.ports := rfl
@[simp] theorem State.setReg_frame (s : State) (r : Reg) (v : Byte) : (s.setReg r v).frame = s.frame := rfl
@[simp] theorem State.setReg_report (s : State) (r : Reg) (v : Byte) : (s.setReg r v).report = s.report := rfl
@[simp] theorem State.setReg_env (s : State) (r : Reg) (v : Byte) : (s.setReg r v).env = s.env := rfl
@[simp] theorem State.setReg_draws (s : State) (r : Reg) (v : Byte) : (s.setReg r v).draws = s.draws := rfl
@[simp] theorem State.setReg_cfg (s : State) (r : Reg) (v : Byte) : (s.setReg r v).cfg = s.cfg := rfl

@[simp] theorem State.setCarry_regs (s : State) (b : Bool) : (s.setCarry b).regs = s.regs := rfl
@[simp] theorem State.setCarry_flags (s : State) (b : Bool) : (s.setCarry b).flags = { s.flags with cy := b } := rfl
@[simp] theorem State.setCarry_sp (s : State) (b : Bool) : (s.setCarry b).sp = s.sp := rfl
@[simp] theorem State.setCarry_pc (s : State) (b : Bool) : (s.setCarry b).pc = s.pc := rfl
@[simp] theorem State.setCarry_inte (s : State) (b : Bool) : (s.setCarry b).inte = s.inte := rfl
@[simp] theorem State.setCarry_halted (s : State) (b : Bool) : (s.setCarry b).halted = s.halted := rfl
@[simp] theorem State.setCarry_mem (s : State) (b : Bool) : (s.setCarry b).mem = s.mem := rfl
@[simp] theorem State.setCarry_ports (s : State) (b : Bool) : (s.setCarry b).ports = s.ports := rfl
@[simp] theorem State.setCarry_frame (s : State) (b : Bool) : (s.setCarry b).frame = s.frame := rfl
@[simp] theorem State.setCarry_report (s : State) (b : Bool) : (s.setCarry b).report = s.report := rfl
@[simp] theorem State.setCarry_env (s : State) (b : Bool) : (s.setCarry b).env = s.env := rfl
@[simp] theorem State.setCarry_draws (s : State) (b : Bool) : (s.setCarry b).draws = s.draws := rfl
@[simp] theorem State.setCarry_cfg (s : State) (b : Bool) : (s.setCarry b).cfg = s.cfg := rfl

@[simp] theorem State.setReport_regs (s : State) (x : Report) : (s.setReport x).regs = s.regs := rfl
@[simp] theorem State.setReport_flags (s : State) (x : Report) : (s.setReport x).flags = s.flags := rfl
@[simp] theorem State.setReport_sp (s : State) (x : Report) : (s.setReport x).sp = s.sp := rfl
@[simp] theorem State.setReport_pc (s : State) (x : Report) : (s.setReport x).pc = s.pc := rfl
@[simp] theorem State.setReport_inte (s : State) (x : Report) : (s.setReport x).inte = s.inte := rfl
@[simp] theorem State.setReport_halted (s : State) (x : Report) : (s.setReport x).halted = s.halted := rfl
@[simp] theorem State.setReport_mem (s : State) (x : Report) : (s.setReport x).mem = s.mem := rfl
@[simp] theorem State.setReport_ports (s : State) (x : Report) : (s.setReport x).ports = s.ports := rfl
@[simp] theorem State.setReport_frame (s : State) (x : Report) : (s.setReport x).frame = s.frame := rfl
@[simp] theorem State.setReport_report (s : State) (x : Report) : (s.setReport x).report = x := rfl
@[simp] theorem State.setReport_env (s : State) (x : Report) : (s.setReport x).env = s.env := rfl
@[simp] theorem State.setReport_draws (s : State) (x : Report) : (s.setReport x).draws = s.draws := rfl
@[simp] theorem State.setReport_cfg (s : State) (x : Report) : (s.setReport x).cfg = s.cfg := rfl

@[simp] theorem State.setPorts_regs (s : State) (io : Ports) : (s.setPorts io).regs = s.regs := rfl
@[simp] theorem State.setPorts_flags (s : State) (io : Ports) : (s.setPorts io).flags = s.flags := rfl
@[simp] theorem State.setPorts_sp (s : State) (io : Ports) : (s.setPorts io).sp = s.sp := rfl
@[simp] theorem State.setPorts_pc (s : State) (io : Ports) : (s.setPorts io).pc = s.pc := rfl
@[simp] theorem State.setPorts_inte (s : State) (io : Ports) : (s.setPorts io).inte = s.inte := rfl
@[simp] theorem State.setPorts_halted (s : State) (io : Ports) : (s.setPorts io).halted = s.halted := rfl
@[simp] theorem State.setPorts_mem (s : State) (io : Ports) : (s.setPorts io).mem = s.mem := rfl
@[simp] theorem State.setPorts_ports (s : State) (io : Ports) : (s.setPorts io).ports = io := rfl
@[simp] theorem State.setPorts_frame (s : State) (io : Ports) : (s.setPorts io).frame = s.frame := rfl
@[simp] theorem State.setPorts_report (s : State) (io : Ports) : (s.setPorts io).report = s.report := rfl
@[simp] theorem State.setPorts_env (s : State) (io : Ports) : (s.setPorts io).env = s.env := rfl
@[simp] theorem State.setPorts_draws (s : State) (io : Ports) : (s.setPorts io).draws = s.draws := rfl
@[simp] theorem State.setPorts_cfg (s : State) (io : Ports) : (s.setPorts io).cfg = s.cfg := rfl

@[simp] theorem State.setInte_regs (s : State) (b : Bool) : (s.setInte b).regs = s.regs := rfl
@[simp] theorem State.setInte_flags (s : State) (b : Bool) : (s.setInte b).flags = s.flags := rfl
@[simp] theorem State.setInte_sp (s : State) (b : Bool) : (s.setInte b).sp = s.sp := rfl
@[simp] theorem State.setInte_pc (s : State) (b : Bool) : (s.setInte b).pc = s.pc := rfl
@[simp] theorem State.setInte_inte (s : State) (b : Bool) : (s.setInte b).inte = b := rfl
@[simp] theorem State.setInte_halted (s : State) (b : Bool) : (s.setInte b).halted = s.halted := rfl
@[simp] theorem State.setInte_mem (s : State) (b : Bool) : (s.setInte b).mem = s.mem := rfl
@[simp] theorem State.setInte_ports (s : State) (b : Bool) : (s.setInte b).ports = s.ports := rfl
@[simp] theorem State.setInte_frame (s : State) (b : Bool) : (s.setInte b).frame = s.frame := rfl
@[simp] theorem State.setInte_report (s : State) (b : Bool) : (s.setInte b).report = s.report := rfl
@[simp] theorem State.setInte_env (s : State) (b : Bool) : (s.setInte b).env = s.env := rfl
@[simp] theorem State.setInte_draws (s : State) (b : Bool) : (s.setInte b).draws = s.draws := rfl
@[simp] theorem State.setInte_cfg (s : State) (b : Bool) : (s.setInte b).cfg = s.cfg := rfl

@[simp] theorem State.countDraw_regs (s : State) : s.countDraw.regs = s.regs := rfl
@[simp] theorem State.countDraw_flags (s : State) : s.countDraw.flags = s.flags := rfl
@[simp] theorem State.countDraw_sp (s : State) : s.countDraw.sp = s.sp := rfl
@[simp] theorem State.countDraw_pc (s : State) : s.countDraw.pc = s.pc := rfl
@[simp] theorem State.countDraw_inte (s : State) : s.countDraw.inte = s.inte := rfl
@[simp] theorem State.countDraw_halted (s : State) : s.countDraw.halted = s.halted := rfl
@[simp] theorem State.countDraw_mem (s : State) : s.countDraw.mem = s.mem := rfl
@[simp] theorem State.countDraw_ports (s : State) : s.countDraw.ports = s.ports := rfl
@[simp] theorem State.countDraw_frame (s : State) : s.countDraw.frame = s.frame := rfl
@[simp] theorem State.countDraw_report (s : State) : s.countDraw.report = s.report := rfl
@[simp] theorem State.countDraw_env (s : State) : s.countDraw.env = s.env := rfl
@[simp] theorem State.countDraw_draws (s : State) : s.countDraw.draws = s.draws + 1 := rfl
@[simp] theorem State.countDraw_cfg (s : State) : s.countDraw.cfg = s.cfg := rfl

@[simp] theorem State.setHalted_regs (s : State) (b : Bool) : (s.setHalted b).regs = s.regs := rfl
@[simp] theorem State.setHalted_flags (s : State) (b : Bool) : (s.setHalted b).flags = s.flags := rfl
@[simp] theorem State.setHalted_sp (s : State) (b : Bool) : (s.setHalted b).sp = s.sp := rfl
@[simp] theorem State.setHalted_pc (s : State) (b : Bool) : (s.setHalted b).pc = s.pc := rfl
@[simp] theorem State.setHalted_inte (s : State) (b : Bool) : (s.setHalted b).inte = s.inte := rfl
@[simp] theorem State.setHalted_halted (s : State) (b : Bool) : (s.setHalted b).halted = b := rfl
@[simp] theorem State.setHalted_mem (s : State) (b : Bool) : (s.setHalted b).mem = s.mem := rfl
@[simp] theorem State.setHalted_ports (s : State) (b : Bool) : (s.setHalted b).ports = s.ports := rfl
@[simp] theorem State.setHalted_frame (s : State) (b : Bool) : (s.setHalted b).frame = s.frame := rfl
@[simp] theorem State.setHalted_report (s : State) (b : Bool) : (s.setHalted b).report = s.report := rfl
@[simp] theorem State.setHalted_env (s : State) (b : Bool) : (s.setHalted b).env = s.env := rfl
@[simp] theorem State.setHalted_draws (s : State) (b : Bool) : (s.setHalted b).draws = s.draws := rfl
@[simp] theorem State.setHalted_cfg (s : State) (b : Bool) : (s.setHalted b).cfg = s.cfg := rfl

@[simp] theorem State.setPair_flags (s : State) (p : Pair) (v : Word) : (s.setPair p v).flags = s.flags := by cases p <;> rfl
@[simp] theorem State.setPair_pc (s : State) (p : Pair) (v : Word) : (s.setPair p v).pc = s.pc := by cases p <;> rfl
@[simp] theorem State.setPair_inte (s : State) (p : Pair) (v : Word) : (s.setPair p v).inte = s.inte := by cases p <;> rfl
@[simp] theorem State.setPair_halted (s : State) (p : Pair) (v : Word) : (s.setPair p v).halted = s.halted := by cases p <;> rfl
@[simp] theorem State.setPair_mem (s : State) (p : Pair) (v : Word) : (s.setPair p v).mem = s.mem := by cases p <;> rfl
@[simp] theorem State.setPair_ports (s : State) (p : Pair) (v : Word) : (s.setPair p v).ports = s.ports := by cases p <;> rfl
@[simp] theorem State.setPair_frame (s : State) (p : Pair) (v : Word) : (s.setPair p v).frame = s.frame := by cases p <;> rfl
@[simp] theorem State.setPair_report (s : State) (p : Pair) (v : Word) : (s.setPair p v).report = s.report := by cases p <;> rfl
@[simp] theorem State.setPair_env (s : State) (p : Pair) (v : Word) : (s.setPair p v).env = s.env := by cases p <;> rfl
@[simp] theorem State.setPair_draws (s : State) (p : Pair) (v : Word) : (s.setPair p v).draws = s.draws := by cases p <;> rfl
@[simp] theorem State.setPair_cfg (s : State) (p : Pair) (v : Word) : (s.setPair p v).cfg = s.cfg := by cases p <;> rfl

@[simp] theorem State.storeAtPc_regs (s : State) (b0 b1 b2 : Byte) : (s.storeAtPc b0 b1 b2).regs = s.regs := rfl
@[simp] theorem State.storeAtPc_flags (s : State) (b0 b1 b2 : Byte) : (s.storeAtPc b0 b1 b2).flags = s.flags := rfl
@[simp] theorem State.storeAtPc_sp (s : State) (b0 b1 b2 : Byte) : (s.storeAtPc b0 b1 b2).sp = s.sp := rfl
@[simp] theorem State.storeAtPc_pc (s : State) (b0 b1 b2 : Byte) : (s.storeAtPc b0 b1 b2).pc = s.pc := rfl
@[simp] theorem State.storeAtPc_inte (s : State) (b0 b1 b2 : Byte) : (s.storeAtPc b0 b1 b2).inte = s.inte := rfl
@[simp] theorem State.storeAtPc_halted (s : State) (b0 b1 b2 : Byte) : (s.storeAtPc b0 b1 b2).halted = s.halted := rfl
@[simp] theorem State.storeAtPc_ports (s : State) (b0 b1 b2 : Byte) : (s.storeAtPc b0 b1 b2).ports = s.ports := rfl
@[simp] theorem State.storeAtPc_frame (s : State) (b0 b1 b2 : Byte) : (s.storeAtPc b0 b1 b2).frame = s.frame := rfl
@[simp] theorem State.storeAtPc_report (s : State) (b0 b1 b2 : Byte) : (s.storeAtPc b0 b1 b2).report = s.report := rfl
@[simp] theorem State.storeAtPc_env (s : State) (b0 b1 b2 : Byte) : (s.storeAtPc b0 b1 b2).env = s.env := rfl
@[simp] theorem State.storeAtPc_draws (s : State) (b0 b1 b2 : Byte) : (s.storeAtPc b0 b1 b2).draws = s.draws := rfl
@[simp] theorem State.storeAtPc_cfg (s : State) (b0 b1 b2 : Byte) : (s.storeAtPc b0 b1 b2).cfg = s.cfg := rfl

@[simp] theorem State.setPair_sp_sp (s : State) (v : Word) : (s.setPair .sp v).sp = v := rfl
@[simp] theorem State.setPair_sp_regs (s : State) (v : Word) : (s.setPair .sp v).regs = s.regs := rfl
@[simp] theorem State.setPair_bc_regs (s : State) (v : Word) : (s.setPair .bc v).regs = s.regs.setBc v := rfl
@[simp] theorem State.setPair_de_regs (s : State) (v : Word) : (s.setPair .de v).regs = s.regs.setDe v := rfl
@[simp] theorem State.setPair_hl_regs (s : State) (v : Word) : (s.setPair .hl v).regs = s.regs.setHl v := rfl

end Sys2Proof.Machine
end

