-- ==== Sys2Proof/Laws/Ops.lean ====
section
/-! SUPPORT. One lemma per shared operation: what it has done if it answers next. -/

namespace Sys2Proof

theorem pair_toNat (h l : Byte) : (pair h l).toNat = h.toNat * 256 + l.toNat := by
  have := h.isLt
  have := l.isLt
  simp only [pair, BitVec.toNat_ofNat]
  omega

theorem hi8_toNat (v : Word) : (hi8 v).toNat = v.toNat / 256 := by
  have := v.isLt
  simp only [hi8, BitVec.toNat_ofNat]
  omega

theorem lo8_toNat (v : Word) : (lo8 v).toNat = v.toNat % 256 := by
  simp [lo8]

@[simp] theorem hi8_pair (h l : Byte) : hi8 (pair h l) = h := by
  apply BitVec.eq_of_toNat_eq
  have := l.isLt
  rw [hi8_toNat, pair_toNat]
  omega

@[simp] theorem lo8_pair (h l : Byte) : lo8 (pair h l) = l := by
  apply BitVec.eq_of_toNat_eq
  have := l.isLt
  rw [lo8_toNat, pair_toNat]
  omega

@[simp] theorem pair_hi8_lo8 (v : Word) : pair (hi8 v) (lo8 v) = v := by
  apply BitVec.eq_of_toNat_eq
  rw [pair_toNat, hi8_toNat, lo8_toNat]
  omega

namespace Machine

/-! ## Registers -/

theorem Regs.get_set (g : Regs) (r q : Reg) (v : Byte) : (g.set r v).get q = if q = r then v else g.get q := by
  cases r <;> cases q <;> rfl

@[simp] theorem Regs.get_set_self (g : Regs) (r : Reg) (v : Byte) : (g.set r v).get r = v := by
  simp [Regs.get_set]

theorem Regs.get_set_other (g : Regs) {r q : Reg} (v : Byte) (h : q ≠ r) : (g.set r v).get q = g.get q := by
  simp [Regs.get_set, h]

theorem Regs.ext_get {g g' : Regs} (h : ∀ r, g.get r = g'.get r) : g = g' := by
  cases g
  cases g'
  have hb := h .b
  have hc := h .c
  have hd := h .d
  have he := h .e
  have hh := h .h
  have hl := h .l
  have ha := h .a
  simp_all [Regs.get]

@[simp] theorem State.setPair_pairVal (s : State) (p : Pair) (v : Word) : (s.setPair p v).pairVal p = v := by
  cases p <;> simp [State.setPair, State.pairVal, Regs.bc, Regs.de, Regs.hl, Regs.setBc, Regs.setDe, Regs.setHl]

/-! ## Byte accesses -/

theorem State.readByte_writeByte (s : State) (a b : Word) (v : Byte) :
    (s.writeByte a v).readByte b = if b = a then v else s.readByte b := by
  simp only [State.readByte, State.writeByte, Memory.read_write]
  by_cases h : b = a
  · simp [h]
  · have : b.toNat ≠ a.toNat := fun e => h (BitVec.eq_of_toNat_eq e)
    simp [h, this]

theorem State.wf_writeByte (s : State) (a : Word) (v : Byte) (h : s.mem.wf = true) :
    (s.writeByte a v).mem.wf = true :=
  Memory.wf_write _ _ _ h a.isLt

/-! ## Outcomes -/

@[simp] theorem chain_next (s : State) (k : State → Res) : chain (.next s) k = k s := rfl
@[simp] theorem chain_fault (x : Fault) (k : State → Res) : chain (.fault x) k = .fault x := rfl
@[simp] theorem chain_refused (x : Refusal) (k : State → Res) : chain (.refused x) k = .refused x := rfl

/-- A chain answers next only through a next of its first part. -/
theorem chain_eq_next {r : Res} {k : State → Res} {t : State} (h : chain r k = .next t) :
    ∃ u, r = .next u ∧ k u = .next t := by
  cases r with
  | next u => exact ⟨u, rfl, h⟩
  | fault x => simp [chain] at h
  | refused x => simp [chain] at h

/-! ## Addresses -/

/-- An address in range is the sum, whatever the policy. -/
theorem offsetAddr_inRange (policy : AddrPolicy) (base : Word) (k : Int)
    (h : 0 ≤ (base.toNat : Int) + k ∧ (base.toNat : Int) + k ≤ 0xFFFF) :
    offsetAddr policy base k = .ok (lowWord (base.toNat + k)) := by
  simp [offsetAddr, h]

/-- Under `Wrap` there is always an address. -/
theorem offsetAddr_wrap (base : Word) (k : Int) : offsetAddr .wrap base k = .ok (lowWord (base.toNat + k)) := by
  simp [offsetAddr]

/-- Out of range under `Fault` there is none. -/
theorem offsetAddr_fault (base : Word) (k : Int)
    (h : ¬ (0 ≤ (base.toNat : Int) + k ∧ (base.toNat : Int) + k ≤ 0xFFFF)) :
    offsetAddr .fault base k = .error (base.toNat + k) := by
  simp only [offsetAddr, h, if_false]

theorem lowWord_add (base : Word) (k : Int) : lowWord (base.toNat + k) = base + BitVec.ofInt 16 k := by
  simp [lowWord, BitVec.ofInt_add]

/-- The address, when there is one, is base + k modulo 2^16. -/
theorem offsetAddr_ok {policy : AddrPolicy} {base a : Word} {k : Int} (h : offsetAddr policy base k = .ok a) :
    a = base + BitVec.ofInt 16 k := by
  simp only [offsetAddr, lowWord_add] at h
  split at h
  · exact (Except.ok.inj h).symm
  · cases policy with
    | fault => simp at h
    | wrap => exact (Except.ok.inj h).symm

@[simp] theorem withAddr_ok (pc a : Word) (k : Word → Res) : withAddr pc (.ok a) k = k a := rfl
@[simp] theorem withAddr_error (pc : Word) (n : Int) (k : Word → Res) :
    withAddr pc (.error n) k = .fault (.addressOutOfRange n pc) := rfl

theorem withAddr_eq_next {pc : Word} {r : Except Int Word} {k : Word → Res} {t : State}
    (h : withAddr pc r k = .next t) : ∃ a, r = .ok a ∧ k a = .next t := by
  cases r with
  | ok a => exact ⟨a, rfl, h⟩
  | error n => simp [withAddr] at h

/-! ## The stack primitives -/

/-- `push16` stores the high byte at SP-1 and the low byte at SP-2 and lowers SP by 2; nothing else. -/
theorem push16_eq_next {v : Word} {s t : State} (h : push16 v s = .next t) :
    ∃ hiAddr loAddr, stackAddr s.cfg s.sp (-1) = .ok hiAddr ∧ stackAddr s.cfg s.sp (-2) = .ok loAddr ∧
      t = { (s.writeByte hiAddr (hi8 v)).writeByte loAddr (lo8 v) with sp := s.sp - 2 } := by
  obtain ⟨hiAddr, hhi, h⟩ := withAddr_eq_next h
  obtain ⟨loAddr, hlo, h⟩ := withAddr_eq_next h
  exact ⟨hiAddr, loAddr, hhi, hlo, (Host.Outcome.next.inj h).symm⟩

/-- `push16` when both addresses exist. -/
theorem push16_of_addrs {v : Word} {s : State} {hiAddr loAddr : Word}
    (hhi : stackAddr s.cfg s.sp (-1) = .ok hiAddr) (hlo : stackAddr s.cfg s.sp (-2) = .ok loAddr) :
    push16 v s = .next { (s.writeByte hiAddr (hi8 v)).writeByte loAddr (lo8 v) with sp := s.sp - 2 } := by
  simp [push16, hhi, hlo]

/-- `pop16` goes on with the two bytes at SP and SP+1 and SP raised by 2. -/
theorem pop16_eq_next {s t : State} {k : Word → State → Res} (h : pop16 s k = .next t) :
    ∃ loAddr hiAddr, stackAddr s.cfg s.sp 0 = .ok loAddr ∧ stackAddr s.cfg s.sp 1 = .ok hiAddr ∧
      k (pair (s.readByte hiAddr) (s.readByte loAddr)) { s with sp := s.sp + 2 } = .next t := by
  obtain ⟨loAddr, hlo, h⟩ := withAddr_eq_next h
  obtain ⟨hiAddr, hhi, h⟩ := withAddr_eq_next h
  exact ⟨loAddr, hiAddr, hlo, hhi, h⟩

theorem pop16_of_addrs {s : State} {k : Word → State → Res} {loAddr hiAddr : Word}
    (hlo : stackAddr s.cfg s.sp 0 = .ok loAddr) (hhi : stackAddr s.cfg s.sp 1 = .ok hiAddr) :
    pop16 s k = k (pair (s.readByte hiAddr) (s.readByte loAddr)) { s with sp := s.sp + 2 } := by
  simp [pop16, hhi, hlo]

/-! ## The sequencer -/

theorem advance_eq_next {op : Byte} {len : Word} {s t : State} (h : advance op len s = .next t) :
    t = { s with pc := s.pc + len, report := ordinaryReport s.cfg op false } :=
  (Host.Outcome.next.inj h).symm

theorem jumpTo_eq_next {op : Byte} {taken : Bool} {target : Word} {s t : State}
    (h : jumpTo op taken target s = .next t) :
    t = { s with pc := target, report := ordinaryReport s.cfg op taken } :=
  (Host.Outcome.next.inj h).symm

theorem callTo_eq_next {op : Byte} {taken : Bool} {ret target : Word} {s t : State}
    (h : callTo op taken ret target s = .next t) :
    ∃ u, push16 ret s = .next u ∧ t = { u with pc := target, report := ordinaryReport u.cfg op taken } := by
  obtain ⟨u, hu, h⟩ := chain_eq_next h
  exact ⟨u, hu, jumpTo_eq_next h⟩

theorem popPc_eq_next {op : Byte} {taken : Bool} {s t : State} (h : popPc op taken s = .next t) :
    ∃ loAddr hiAddr, stackAddr s.cfg s.sp 0 = .ok loAddr ∧ stackAddr s.cfg s.sp 1 = .ok hiAddr ∧
      t = { s with sp := s.sp + 2, pc := pair (s.readByte hiAddr) (s.readByte loAddr),
                   report := ordinaryReport s.cfg op taken } := by
  obtain ⟨loAddr, hiAddr, hlo, hhi, h⟩ := pop16_eq_next h
  exact ⟨loAddr, hiAddr, hlo, hhi, jumpTo_eq_next h⟩

/-! ## Interrupts -/

/-- A request does nothing, or it enters the line's handler. -/
theorem interrupt_eq_next {n : IrqLine} {s t : State} (h : interrupt n s = .next t) :
    (s.inte = false ∧ t = s) ∨
    (s.inte = true ∧ ∃ u, push16 s.pc { s with inte := false, halted := false } = .next u ∧
      t = { u with pc := n.vector }) := by
  unfold interrupt at h
  cases hi : s.inte with
  | false => simp [hi] at h; exact .inl ⟨rfl, h.symm⟩
  | true =>
    simp only [hi, if_true] at h
    obtain ⟨u, hu, h⟩ := chain_eq_next h
    exact .inr ⟨rfl, u, hu, (Host.Outcome.next.inj h).symm⟩

/-! ## The shared steps of the families -/

theorem loadHl_eq_next {op : Byte} {addr : Word} {s t : State} (h : loadHl op addr s = .next t) :
    ∃ next, dataAddr s.cfg addr 1 = .ok next ∧
      t = { (s.setReg .l (s.readByte addr)).setReg .h (s.readByte next) with
            pc := s.pc + 3, report := ordinaryReport s.cfg op false } := by
  obtain ⟨next, hn, h⟩ := withAddr_eq_next h
  exact ⟨next, hn, advance_eq_next h⟩

theorem storeHl_eq_next {op : Byte} {addr : Word} {s t : State} (h : storeHl op addr s = .next t) :
    ∃ next, dataAddr s.cfg addr 1 = .ok next ∧
      t = { (s.writeByte addr s.regs.l).writeByte next s.regs.h with
            pc := s.pc + 3, report := ordinaryReport s.cfg op false } := by
  obtain ⟨next, hn, h⟩ := withAddr_eq_next h
  exact ⟨next, hn, advance_eq_next h⟩

theorem jumpIf_eq_next {op : Byte} {cnd : Cond} {target : Word} {s t : State} (h : jumpIf op cnd target s = .next t) :
    (condHolds cnd s.flags = true ∧ t = { s with pc := target, report := ordinaryReport s.cfg op true }) ∨
    (condHolds cnd s.flags = false ∧ t = { s with pc := s.pc + 3, report := ordinaryReport s.cfg op false }) := by
  unfold jumpIf at h
  cases hc : condHolds cnd s.flags with
  | true => simp only [hc, if_true] at h; exact .inl ⟨rfl, jumpTo_eq_next h⟩
  | false => simp only [hc] at h; exact .inr ⟨rfl, advance_eq_next h⟩

theorem callIf_eq_next {op : Byte} {cnd : Cond} {target : Word} {s t : State} (h : callIf op cnd target s = .next t) :
    (condHolds cnd s.flags = true ∧ callTo op true (s.pc + 3) target s = .next t) ∨
    (condHolds cnd s.flags = false ∧ t = { s with pc := s.pc + 3, report := ordinaryReport s.cfg op false }) := by
  unfold callIf at h
  cases hc : condHolds cnd s.flags with
  | true => simp only [hc, if_true] at h; exact .inl ⟨rfl, h⟩
  | false => simp only [hc] at h; exact .inr ⟨rfl, advance_eq_next h⟩

theorem returnIf_eq_next {op : Byte} {cnd : Cond} {s t : State} (h : returnIf op cnd s = .next t) :
    (condHolds cnd s.flags = true ∧ popPc op true s = .next t) ∨
    (condHolds cnd s.flags = false ∧ t = { s with pc := s.pc + 1, report := ordinaryReport s.cfg op false }) := by
  unfold returnIf at h
  cases hc : condHolds cnd s.flags with
  | true => simp only [hc, if_true] at h; exact .inl ⟨rfl, h⟩
  | false => simp only [hc] at h; exact .inr ⟨rfl, advance_eq_next h⟩

theorem pushWord_eq_next {op : Byte} {v : Word} {s t : State} (h : pushWord op v s = .next t) :
    ∃ u, push16 v s = .next u ∧ t = { u with pc := u.pc + 1, report := ordinaryReport u.cfg op false } := by
  obtain ⟨u, hu, h⟩ := chain_eq_next h
  exact ⟨u, hu, advance_eq_next h⟩

theorem popPair_eq_next {op : Byte} {p : StackPair} {s t : State} (h : popPair op p s = .next t) :
    ∃ loAddr hiAddr, stackAddr s.cfg s.sp 0 = .ok loAddr ∧ stackAddr s.cfg s.sp 1 = .ok hiAddr ∧
      t = { s with sp := s.sp + 2, regs := s.regs.setStackPair p (pair (s.readByte hiAddr) (s.readByte loAddr)),
                   pc := s.pc + 1, report := ordinaryReport s.cfg op false } := by
  obtain ⟨loAddr, hiAddr, hlo, hhi, h⟩ := pop16_eq_next h
  exact ⟨loAddr, hiAddr, hlo, hhi, advance_eq_next h⟩

theorem popPsw_eq_next {op : Byte} {s t : State} (h : popPsw op s = .next t) :
    ∃ loAddr hiAddr, stackAddr s.cfg s.sp 0 = .ok loAddr ∧ stackAddr s.cfg s.sp 1 = .ok hiAddr ∧
      t = { s with sp := s.sp + 2, regs := s.regs.set .a (s.readByte hiAddr), flags := flagsOfByte (s.readByte loAddr),
                   pc := s.pc + 1, report := ordinaryReport s.cfg op false } := by
  obtain ⟨loAddr, hiAddr, hlo, hhi, h⟩ := pop16_eq_next h
  refine ⟨loAddr, hiAddr, hlo, hhi, ?_⟩
  simpa [State.setReg] using advance_eq_next h

theorem exchangeStackHl_eq_next {op : Byte} {s t : State} (h : exchangeStackHl op s = .next t) :
    ∃ loAddr hiAddr, stackAddr s.cfg s.sp 0 = .ok loAddr ∧ stackAddr s.cfg s.sp 1 = .ok hiAddr ∧
      t = { (s.writeByte loAddr s.regs.l).writeByte hiAddr s.regs.h with
            regs := (s.regs.set .l (s.readByte loAddr)).set .h (s.readByte hiAddr),
            pc := s.pc + 1, report := ordinaryReport s.cfg op false } := by
  obtain ⟨loAddr, hlo, h⟩ := withAddr_eq_next h
  obtain ⟨hiAddr, hhi, h⟩ := withAddr_eq_next h
  exact ⟨loAddr, hiAddr, hlo, hhi, advance_eq_next h⟩

theorem inputStep_eq_next {op p : Byte} {s t : State} (h : inputStep op p s = .next t) :
    ∃ v, portIn p s.ports = some v ∧
      t = { s.setReg .a v with pc := s.pc + 2, report := ordinaryReport s.cfg op false } := by
  unfold inputStep at h
  cases hp : portIn p s.ports with
  | none => simp [hp] at h
  | some v => simp only [hp] at h; exact ⟨v, rfl, advance_eq_next h⟩

theorem aluStep_eq_next {op : Byte} {len : Word} {k : AluOp} {x : Src} {s t : State}
    (h : aluStep op len k x s = .next t) :
    t = { s.setReg .a (aluOp k s.regs.a (s.src x) s.flags).1 with
          flags := (aluOp k s.regs.a (s.src x) s.flags).2, pc := s.pc + len,
          report := ordinaryReport s.cfg op false } :=
  advance_eq_next h

/-- CALL ends the run with the intercept's status, or it is a real call. -/
theorem execCall_eq_next {w : Word} {s t : State} (h : execCall w s = .next t) :
    (∃ x, harnessStatus w s = some x ∧
      t = s.countDraw.setReport { status := x, cycles := cycleTable s.cfg 0xCD false }) ∨
    (harnessStatus w s = none ∧ callTo 0xCD false (s.pc + 3) w s = .next t) := by
  unfold execCall at h
  cases hw : harnessStatus w s with
  | some x => simp only [hw] at h; exact .inl ⟨x, rfl, (Host.Outcome.next.inj h).symm⟩
  | none => simp only [hw] at h; exact .inr ⟨rfl, h⟩

theorem illegalStep_ne_next (op : Byte) (s t : State) : illegalStep op s ≠ .next t := by
  simp [illegalStep]

end Machine

end Sys2Proof
end

