-- ==== Sys2Proof/Laws/PerInstr.lean ====
section
/-! SUPPORT. The family OpcodeSelects: whatever bytes follow it, an instruction's opcode byte selects an instruction with
that opcode byte (30_encoding.md R134: a decoder knows what follows from the opcode byte alone).  One lemma per
constructor of Instr. -/

namespace Sys2Proof.Laws.OpcodeSelects

/-- The opcode byte of i, with any two bytes after it, decodes to an instruction with the same opcode byte. -/
def Statement (i : Instr) : Prop := ∀ b1 b2 : Byte, (decodeBytes i.opcode b1 b2).opcode = i.opcode

theorem nop : Statement .nop :=
  fun b1 b2 => (rfl : (decodeBytes 0x00 b1 b2).opcode = 0x00)
theorem lxiB (w : Word) : Statement (.lxiB w) :=
  fun b1 b2 => (rfl : (decodeBytes 0x01 b1 b2).opcode = 0x01)
theorem staxB : Statement .staxB :=
  fun b1 b2 => (rfl : (decodeBytes 0x02 b1 b2).opcode = 0x02)
theorem inxB : Statement .inxB :=
  fun b1 b2 => (rfl : (decodeBytes 0x03 b1 b2).opcode = 0x03)
theorem inrB : Statement .inrB :=
  fun b1 b2 => (rfl : (decodeBytes 0x04 b1 b2).opcode = 0x04)
theorem dcrB : Statement .dcrB :=
  fun b1 b2 => (rfl : (decodeBytes 0x05 b1 b2).opcode = 0x05)
theorem mviB (d : Byte) : Statement (.mviB d) :=
  fun b1 b2 => (rfl : (decodeBytes 0x06 b1 b2).opcode = 0x06)
theorem rlc : Statement .rlc :=
  fun b1 b2 => (rfl : (decodeBytes 0x07 b1 b2).opcode = 0x07)
theorem illegal08 : Statement .illegal08 :=
  fun b1 b2 => (rfl : (decodeBytes 0x08 b1 b2).opcode = 0x08)
theorem dadB : Statement .dadB :=
  fun b1 b2 => (rfl : (decodeBytes 0x09 b1 b2).opcode = 0x09)
theorem ldaxB : Statement .ldaxB :=
  fun b1 b2 => (rfl : (decodeBytes 0x0A b1 b2).opcode = 0x0A)
theorem dcxB : Statement .dcxB :=
  fun b1 b2 => (rfl : (decodeBytes 0x0B b1 b2).opcode = 0x0B)
theorem inrC : Statement .inrC :=
  fun b1 b2 => (rfl : (decodeBytes 0x0C b1 b2).opcode = 0x0C)
theorem dcrC : Statement .dcrC :=
  fun b1 b2 => (rfl : (decodeBytes 0x0D b1 b2).opcode = 0x0D)
theorem mviC (d : Byte) : Statement (.mviC d) :=
  fun b1 b2 => (rfl : (decodeBytes 0x0E b1 b2).opcode = 0x0E)
theorem rrc : Statement .rrc :=
  fun b1 b2 => (rfl : (decodeBytes 0x0F b1 b2).opcode = 0x0F)
theorem illegal10 : Statement .illegal10 :=
  fun b1 b2 => (rfl : (decodeBytes 0x10 b1 b2).opcode = 0x10)
theorem lxiD (w : Word) : Statement (.lxiD w) :=
  fun b1 b2 => (rfl : (decodeBytes 0x11 b1 b2).opcode = 0x11)
theorem staxD : Statement .staxD :=
  fun b1 b2 => (rfl : (decodeBytes 0x12 b1 b2).opcode = 0x12)
theorem inxD : Statement .inxD :=
  fun b1 b2 => (rfl : (decodeBytes 0x13 b1 b2).opcode = 0x13)
theorem inrD : Statement .inrD :=
  fun b1 b2 => (rfl : (decodeBytes 0x14 b1 b2).opcode = 0x14)
theorem dcrD : Statement .dcrD :=
  fun b1 b2 => (rfl : (decodeBytes 0x15 b1 b2).opcode = 0x15)
theorem mviD (d : Byte) : Statement (.mviD d) :=
  fun b1 b2 => (rfl : (decodeBytes 0x16 b1 b2).opcode = 0x16)
theorem ral : Statement .ral :=
  fun b1 b2 => (rfl : (decodeBytes 0x17 b1 b2).opcode = 0x17)
theorem illegal18 : Statement .illegal18 :=
  fun b1 b2 => (rfl : (decodeBytes 0x18 b1 b2).opcode = 0x18)
theorem dadD : Statement .dadD :=
  fun b1 b2 => (rfl : (decodeBytes 0x19 b1 b2).opcode = 0x19)
theorem ldaxD : Statement .ldaxD :=
  fun b1 b2 => (rfl : (decodeBytes 0x1A b1 b2).opcode = 0x1A)
theorem dcxD : Statement .dcxD :=
  fun b1 b2 => (rfl : (decodeBytes 0x1B b1 b2).opcode = 0x1B)
theorem inrE : Statement .inrE :=
  fun b1 b2 => (rfl : (decodeBytes 0x1C b1 b2).opcode = 0x1C)
theorem dcrE : Statement .dcrE :=
  fun b1 b2 => (rfl : (decodeBytes 0x1D b1 b2).opcode = 0x1D)
theorem mviE (d : Byte) : Statement (.mviE d) :=
  fun b1 b2 => (rfl : (decodeBytes 0x1E b1 b2).opcode = 0x1E)
theorem rar : Statement .rar :=
  fun b1 b2 => (rfl : (decodeBytes 0x1F b1 b2).opcode = 0x1F)
theorem illegal20 : Statement .illegal20 :=
  fun b1 b2 => (rfl : (decodeBytes 0x20 b1 b2).opcode = 0x20)
theorem lxiH (w : Word) : Statement (.lxiH w) :=
  fun b1 b2 => (rfl : (decodeBytes 0x21 b1 b2).opcode = 0x21)
theorem shld (w : Word) : Statement (.shld w) :=
  fun b1 b2 => (rfl : (decodeBytes 0x22 b1 b2).opcode = 0x22)
theorem inxH : Statement .inxH :=
  fun b1 b2 => (rfl : (decodeBytes 0x23 b1 b2).opcode = 0x23)
theorem inrH : Statement .inrH :=
  fun b1 b2 => (rfl : (decodeBytes 0x24 b1 b2).opcode = 0x24)
theorem dcrH : Statement .dcrH :=
  fun b1 b2 => (rfl : (decodeBytes 0x25 b1 b2).opcode = 0x25)
theorem mviH (d : Byte) : Statement (.mviH d) :=
  fun b1 b2 => (rfl : (decodeBytes 0x26 b1 b2).opcode = 0x26)
theorem daa : Statement .daa :=
  fun b1 b2 => (rfl : (decodeBytes 0x27 b1 b2).opcode = 0x27)
theorem illegal28 : Statement .illegal28 :=
  fun b1 b2 => (rfl : (decodeBytes 0x28 b1 b2).opcode = 0x28)
theorem dadH : Statement .dadH :=
  fun b1 b2 => (rfl : (decodeBytes 0x29 b1 b2).opcode = 0x29)
theorem lhld (w : Word) : Statement (.lhld w) :=
  fun b1 b2 => (rfl : (decodeBytes 0x2A b1 b2).opcode = 0x2A)
theorem dcxH : Statement .dcxH :=
  fun b1 b2 => (rfl : (decodeBytes 0x2B b1 b2).opcode = 0x2B)
theorem inrL : Statement .inrL :=
  fun b1 b2 => (rfl : (decodeBytes 0x2C b1 b2).opcode = 0x2C)
theorem dcrL : Statement .dcrL :=
  fun b1 b2 => (rfl : (decodeBytes 0x2D b1 b2).opcode = 0x2D)
theorem mviL (d : Byte) : Statement (.mviL d) :=
  fun b1 b2 => (rfl : (decodeBytes 0x2E b1 b2).opcode = 0x2E)
theorem cma : Statement .cma :=
  fun b1 b2 => (rfl : (decodeBytes 0x2F b1 b2).opcode = 0x2F)
theorem illegal30 : Statement .illegal30 :=
  fun b1 b2 => (rfl : (decodeBytes 0x30 b1 b2).opcode = 0x30)
theorem lxiSP (w : Word) : Statement (.lxiSP w) :=
  fun b1 b2 => (rfl : (decodeBytes 0x31 b1 b2).opcode = 0x31)
theorem sta (w : Word) : Statement (.sta w) :=
  fun b1 b2 => (rfl : (decodeBytes 0x32 b1 b2).opcode = 0x32)
theorem inxSP : Statement .inxSP :=
  fun b1 b2 => (rfl : (decodeBytes 0x33 b1 b2).opcode = 0x33)
theorem inrM : Statement .inrM :=
  fun b1 b2 => (rfl : (decodeBytes 0x34 b1 b2).opcode = 0x34)
theorem dcrM : Statement .dcrM :=
  fun b1 b2 => (rfl : (decodeBytes 0x35 b1 b2).opcode = 0x35)
theorem mviM (d : Byte) : Statement (.mviM d) :=
  fun b1 b2 => (rfl : (decodeBytes 0x36 b1 b2).opcode = 0x36)
theorem stc : Statement .stc :=
  fun b1 b2 => (rfl : (decodeBytes 0x37 b1 b2).opcode = 0x37)
theorem illegal38 : Statement .illegal38 :=
  fun b1 b2 => (rfl : (decodeBytes 0x38 b1 b2).opcode = 0x38)
theorem dadSP : Statement .dadSP :=
  fun b1 b2 => (rfl : (decodeBytes 0x39 b1 b2).opcode = 0x39)
theorem lda (w : Word) : Statement (.lda w) :=
  fun b1 b2 => (rfl : (decodeBytes 0x3A b1 b2).opcode = 0x3A)
theorem dcxSP : Statement .dcxSP :=
  fun b1 b2 => (rfl : (decodeBytes 0x3B b1 b2).opcode = 0x3B)
theorem inrA : Statement .inrA :=
  fun b1 b2 => (rfl : (decodeBytes 0x3C b1 b2).opcode = 0x3C)
theorem dcrA : Statement .dcrA :=
  fun b1 b2 => (rfl : (decodeBytes 0x3D b1 b2).opcode = 0x3D)
theorem mviA (d : Byte) : Statement (.mviA d) :=
  fun b1 b2 => (rfl : (decodeBytes 0x3E b1 b2).opcode = 0x3E)
theorem cmc : Statement .cmc :=
  fun b1 b2 => (rfl : (decodeBytes 0x3F b1 b2).opcode = 0x3F)
theorem movBB : Statement .movBB :=
  fun b1 b2 => (rfl : (decodeBytes 0x40 b1 b2).opcode = 0x40)
theorem movBC : Statement .movBC :=
  fun b1 b2 => (rfl : (decodeBytes 0x41 b1 b2).opcode = 0x41)
theorem movBD : Statement .movBD :=
  fun b1 b2 => (rfl : (decodeBytes 0x42 b1 b2).opcode = 0x42)
theorem movBE : Statement .movBE :=
  fun b1 b2 => (rfl : (decodeBytes 0x43 b1 b2).opcode = 0x43)
theorem movBH : Statement .movBH :=
  fun b1 b2 => (rfl : (decodeBytes 0x44 b1 b2).opcode = 0x44)
theorem movBL : Statement .movBL :=
  fun b1 b2 => (rfl : (decodeBytes 0x45 b1 b2).opcode = 0x45)
theorem movBM : Statement .movBM :=
  fun b1 b2 => (rfl : (decodeBytes 0x46 b1 b2).opcode = 0x46)
theorem movBA : Statement .movBA :=
  fun b1 b2 => (rfl : (decodeBytes 0x47 b1 b2).opcode = 0x47)
theorem movCB : Statement .movCB :=
  fun b1 b2 => (rfl : (decodeBytes 0x48 b1 b2).opcode = 0x48)
theorem movCC : Statement .movCC :=
  fun b1 b2 => (rfl : (decodeBytes 0x49 b1 b2).opcode = 0x49)
theorem movCD : Statement .movCD :=
  fun b1 b2 => (rfl : (decodeBytes 0x4A b1 b2).opcode = 0x4A)
theorem movCE : Statement .movCE :=
  fun b1 b2 => (rfl : (decodeBytes 0x4B b1 b2).opcode = 0x4B)
theorem movCH : Statement .movCH :=
  fun b1 b2 => (rfl : (decodeBytes 0x4C b1 b2).opcode = 0x4C)
theorem movCL : Statement .movCL :=
  fun b1 b2 => (rfl : (decodeBytes 0x4D b1 b2).opcode = 0x4D)
theorem movCM : Statement .movCM :=
  fun b1 b2 => (rfl : (decodeBytes 0x4E b1 b2).opcode = 0x4E)
theorem movCA : Statement .movCA :=
  fun b1 b2 => (rfl : (decodeBytes 0x4F b1 b2).opcode = 0x4F)
theorem movDB : Statement .movDB :=
  fun b1 b2 => (rfl : (decodeBytes 0x50 b1 b2).opcode = 0x50)
theorem movDC : Statement .movDC :=
  fun b1 b2 => (rfl : (decodeBytes 0x51 b1 b2).opcode = 0x51)
theorem movDD : Statement .movDD :=
  fun b1 b2 => (rfl : (decodeBytes 0x52 b1 b2).opcode = 0x52)
theorem movDE : Statement .movDE :=
  fun b1 b2 => (rfl : (decodeBytes 0x53 b1 b2).opcode = 0x53)
theorem movDH : Statement .movDH :=
  fun b1 b2 => (rfl : (decodeBytes 0x54 b1 b2).opcode = 0x54)
theorem movDL : Statement .movDL :=
  fun b1 b2 => (rfl : (decodeBytes 0x55 b1 b2).opcode = 0x55)
theorem movDM : Statement .movDM :=
  fun b1 b2 => (rfl : (decodeBytes 0x56 b1 b2).opcode = 0x56)
theorem movDA : Statement .movDA :=
  fun b1 b2 => (rfl : (decodeBytes 0x57 b1 b2).opcode = 0x57)
theorem movEB : Statement .movEB :=
  fun b1 b2 => (rfl : (decodeBytes 0x58 b1 b2).opcode = 0x58)
theorem movEC : Statement .movEC :=
  fun b1 b2 => (rfl : (decodeBytes 0x59 b1 b2).opcode = 0x59)
theorem movED : Statement .movED :=
  fun b1 b2 => (rfl : (decodeBytes 0x5A b1 b2).opcode = 0x5A)
theorem movEE : Statement .movEE :=
  fun b1 b2 => (rfl : (decodeBytes 0x5B b1 b2).opcode = 0x5B)
theorem movEH : Statement .movEH :=
  fun b1 b2 => (rfl : (decodeBytes 0x5C b1 b2).opcode = 0x5C)
theorem movEL : Statement .movEL :=
  fun b1 b2 => (rfl : (decodeBytes 0x5D b1 b2).opcode = 0x5D)
theorem movEM : Statement .movEM :=
  fun b1 b2 => (rfl : (decodeBytes 0x5E b1 b2).opcode = 0x5E)
theorem movEA : Statement .movEA :=
  fun b1 b2 => (rfl : (decodeBytes 0x5F b1 b2).opcode = 0x5F)
theorem movHB : Statement .movHB :=
  fun b1 b2 => (rfl : (decodeBytes 0x60 b1 b2).opcode = 0x60)
theorem movHC : Statement .movHC :=
  fun b1 b2 => (rfl : (decodeBytes 0x61 b1 b2).opcode = 0x61)
theorem movHD : Statement .movHD :=
  fun b1 b2 => (rfl : (decodeBytes 0x62 b1 b2).opcode = 0x62)
theorem movHE : Statement .movHE :=
  fun b1 b2 => (rfl : (decodeBytes 0x63 b1 b2).opcode = 0x63)
theorem movHH : Statement .movHH :=
  fun b1 b2 => (rfl : (decodeBytes 0x64 b1 b2).opcode = 0x64)
theorem movHL : Statement .movHL :=
  fun b1 b2 => (rfl : (decodeBytes 0x65 b1 b2).opcode = 0x65)
theorem movHM : Statement .movHM :=
  fun b1 b2 => (rfl : (decodeBytes 0x66 b1 b2).opcode = 0x66)
theorem movHA : Statement .movHA :=
  fun b1 b2 => (rfl : (decodeBytes 0x67 b1 b2).opcode = 0x67)
theorem movLB : Statement .movLB :=
  fun b1 b2 => (rfl : (decodeBytes 0x68 b1 b2).opcode = 0x68)
theorem movLC : Statement .movLC :=
  fun b1 b2 => (rfl : (decodeBytes 0x69 b1 b2).opcode = 0x69)
theorem movLD : Statement .movLD :=
  fun b1 b2 => (rfl : (decodeBytes 0x6A b1 b2).opcode = 0x6A)
theorem movLE : Statement .movLE :=
  fun b1 b2 => (rfl : (decodeBytes 0x6B b1 b2).opcode = 0x6B)
theorem movLH : Statement .movLH :=
  fun b1 b2 => (rfl : (decodeBytes 0x6C b1 b2).opcode = 0x6C)
theorem movLL : Statement .movLL :=
  fun b1 b2 => (rfl : (decodeBytes 0x6D b1 b2).opcode = 0x6D)
theorem movLM : Statement .movLM :=
  fun b1 b2 => (rfl : (decodeBytes 0x6E b1 b2).opcode = 0x6E)
theorem movLA : Statement .movLA :=
  fun b1 b2 => (rfl : (decodeBytes 0x6F b1 b2).opcode = 0x6F)
theorem movMB : Statement .movMB :=
  fun b1 b2 => (rfl : (decodeBytes 0x70 b1 b2).opcode = 0x70)
theorem movMC : Statement .movMC :=
  fun b1 b2 => (rfl : (decodeBytes 0x71 b1 b2).opcode = 0x71)
theorem movMD : Statement .movMD :=
  fun b1 b2 => (rfl : (decodeBytes 0x72 b1 b2).opcode = 0x72)
theorem movME : Statement .movME :=
  fun b1 b2 => (rfl : (decodeBytes 0x73 b1 b2).opcode = 0x73)
theorem movMH : Statement .movMH :=
  fun b1 b2 => (rfl : (decodeBytes 0x74 b1 b2).opcode = 0x74)
theorem movML : Statement .movML :=
  fun b1 b2 => (rfl : (decodeBytes 0x75 b1 b2).opcode = 0x75)
theorem hlt : Statement .hlt :=
  fun b1 b2 => (rfl : (decodeBytes 0x76 b1 b2).opcode = 0x76)
theorem movMA : Statement .movMA :=
  fun b1 b2 => (rfl : (decodeBytes 0x77 b1 b2).opcode = 0x77)
theorem movAB : Statement .movAB :=
  fun b1 b2 => (rfl : (decodeBytes 0x78 b1 b2).opcode = 0x78)
theorem movAC : Statement .movAC :=
  fun b1 b2 => (rfl : (decodeBytes 0x79 b1 b2).opcode = 0x79)
theorem movAD : Statement .movAD :=
  fun b1 b2 => (rfl : (decodeBytes 0x7A b1 b2).opcode = 0x7A)
theorem movAE : Statement .movAE :=
  fun b1 b2 => (rfl : (decodeBytes 0x7B b1 b2).opcode = 0x7B)
theorem movAH : Statement .movAH :=
  fun b1 b2 => (rfl : (decodeBytes 0x7C b1 b2).opcode = 0x7C)
theorem movAL : Statement .movAL :=
  fun b1 b2 => (rfl : (decodeBytes 0x7D b1 b2).opcode = 0x7D)
theorem movAM : Statement .movAM :=
  fun b1 b2 => (rfl : (decodeBytes 0x7E b1 b2).opcode = 0x7E)
theorem movAA : Statement .movAA :=
  fun b1 b2 => (rfl : (decodeBytes 0x7F b1 b2).opcode = 0x7F)
theorem addB : Statement .addB :=
  fun b1 b2 => (rfl : (decodeBytes 0x80 b1 b2).opcode = 0x80)
theorem addC : Statement .addC :=
  fun b1 b2 => (rfl : (decodeBytes 0x81 b1 b2).opcode = 0x81)
theorem addD : Statement .addD :=
  fun b1 b2 => (rfl : (decodeBytes 0x82 b1 b2).opcode = 0x82)
theorem addE : Statement .addE :=
  fun b1 b2 => (rfl : (decodeBytes 0x83 b1 b2).opcode = 0x83)
theorem addH : Statement .addH :=
  fun b1 b2 => (rfl : (decodeBytes 0x84 b1 b2).opcode = 0x84)
theorem addL : Statement .addL :=
  fun b1 b2 => (rfl : (decodeBytes 0x85 b1 b2).opcode = 0x85)
theorem addM : Statement .addM :=
  fun b1 b2 => (rfl : (decodeBytes 0x86 b1 b2).opcode = 0x86)
theorem addA : Statement .addA :=
  fun b1 b2 => (rfl : (decodeBytes 0x87 b1 b2).opcode = 0x87)
theorem adcB : Statement .adcB :=
  fun b1 b2 => (rfl : (decodeBytes 0x88 b1 b2).opcode = 0x88)
theorem adcC : Statement .adcC :=
  fun b1 b2 => (rfl : (decodeBytes 0x89 b1 b2).opcode = 0x89)
theorem adcD : Statement .adcD :=
  fun b1 b2 => (rfl : (decodeBytes 0x8A b1 b2).opcode = 0x8A)
theorem adcE : Statement .adcE :=
  fun b1 b2 => (rfl : (decodeBytes 0x8B b1 b2).opcode = 0x8B)
theorem adcH : Statement .adcH :=
  fun b1 b2 => (rfl : (decodeBytes 0x8C b1 b2).opcode = 0x8C)
theorem adcL : Statement .adcL :=
  fun b1 b2 => (rfl : (decodeBytes 0x8D b1 b2).opcode = 0x8D)
theorem adcM : Statement .adcM :=
  fun b1 b2 => (rfl : (decodeBytes 0x8E b1 b2).opcode = 0x8E)
theorem adcA : Statement .adcA :=
  fun b1 b2 => (rfl : (decodeBytes 0x8F b1 b2).opcode = 0x8F)
theorem subB : Statement .subB :=
  fun b1 b2 => (rfl : (decodeBytes 0x90 b1 b2).opcode = 0x90)
theorem subC : Statement .subC :=
  fun b1 b2 => (rfl : (decodeBytes 0x91 b1 b2).opcode = 0x91)
theorem subD : Statement .subD :=
  fun b1 b2 => (rfl : (decodeBytes 0x92 b1 b2).opcode = 0x92)
theorem subE : Statement .subE :=
  fun b1 b2 => (rfl : (decodeBytes 0x93 b1 b2).opcode = 0x93)
theorem subH : Statement .subH :=
  fun b1 b2 => (rfl : (decodeBytes 0x94 b1 b2).opcode = 0x94)
theorem subL : Statement .subL :=
  fun b1 b2 => (rfl : (decodeBytes 0x95 b1 b2).opcode = 0x95)
theorem subM : Statement .subM :=
  fun b1 b2 => (rfl : (decodeBytes 0x96 b1 b2).opcode = 0x96)
theorem subA : Statement .subA :=
  fun b1 b2 => (rfl : (decodeBytes 0x97 b1 b2).opcode = 0x97)
theorem sbbB : Statement .sbbB :=
  fun b1 b2 => (rfl : (decodeBytes 0x98 b1 b2).opcode = 0x98)
theorem sbbC : Statement .sbbC :=
  fun b1 b2 => (rfl : (decodeBytes 0x99 b1 b2).opcode = 0x99)
theorem sbbD : Statement .sbbD :=
  fun b1 b2 => (rfl : (decodeBytes 0x9A b1 b2).opcode = 0x9A)
theorem sbbE : Statement .sbbE :=
  fun b1 b2 => (rfl : (decodeBytes 0x9B b1 b2).opcode = 0x9B)
theorem sbbH : Statement .sbbH :=
  fun b1 b2 => (rfl : (decodeBytes 0x9C b1 b2).opcode = 0x9C)
theorem sbbL : Statement .sbbL :=
  fun b1 b2 => (rfl : (decodeBytes 0x9D b1 b2).opcode = 0x9D)
theorem sbbM : Statement .sbbM :=
  fun b1 b2 => (rfl : (decodeBytes 0x9E b1 b2).opcode = 0x9E)
theorem sbbA : Statement .sbbA :=
  fun b1 b2 => (rfl : (decodeBytes 0x9F b1 b2).opcode = 0x9F)
theorem anaB : Statement .anaB :=
  fun b1 b2 => (rfl : (decodeBytes 0xA0 b1 b2).opcode = 0xA0)
theorem anaC : Statement .anaC :=
  fun b1 b2 => (rfl : (decodeBytes 0xA1 b1 b2).opcode = 0xA1)
theorem anaD : Statement .anaD :=
  fun b1 b2 => (rfl : (decodeBytes 0xA2 b1 b2).opcode = 0xA2)
theorem anaE : Statement .anaE :=
  fun b1 b2 => (rfl : (decodeBytes 0xA3 b1 b2).opcode = 0xA3)
theorem anaH : Statement .anaH :=
  fun b1 b2 => (rfl : (decodeBytes 0xA4 b1 b2).opcode = 0xA4)
theorem anaL : Statement .anaL :=
  fun b1 b2 => (rfl : (decodeBytes 0xA5 b1 b2).opcode = 0xA5)
theorem anaM : Statement .anaM :=
  fun b1 b2 => (rfl : (decodeBytes 0xA6 b1 b2).opcode = 0xA6)
theorem anaA : Statement .anaA :=
  fun b1 b2 => (rfl : (decodeBytes 0xA7 b1 b2).opcode = 0xA7)
theorem xraB : Statement .xraB :=
  fun b1 b2 => (rfl : (decodeBytes 0xA8 b1 b2).opcode = 0xA8)
theorem xraC : Statement .xraC :=
  fun b1 b2 => (rfl : (decodeBytes 0xA9 b1 b2).opcode = 0xA9)
theorem xraD : Statement .xraD :=
  fun b1 b2 => (rfl : (decodeBytes 0xAA b1 b2).opcode = 0xAA)
theorem xraE : Statement .xraE :=
  fun b1 b2 => (rfl : (decodeBytes 0xAB b1 b2).opcode = 0xAB)
theorem xraH : Statement .xraH :=
  fun b1 b2 => (rfl : (decodeBytes 0xAC b1 b2).opcode = 0xAC)
theorem xraL : Statement .xraL :=
  fun b1 b2 => (rfl : (decodeBytes 0xAD b1 b2).opcode = 0xAD)
theorem xraM : Statement .xraM :=
  fun b1 b2 => (rfl : (decodeBytes 0xAE b1 b2).opcode = 0xAE)
theorem xraA : Statement .xraA :=
  fun b1 b2 => (rfl : (decodeBytes 0xAF b1 b2).opcode = 0xAF)
theorem oraB : Statement .oraB :=
  fun b1 b2 => (rfl : (decodeBytes 0xB0 b1 b2).opcode = 0xB0)
theorem oraC : Statement .oraC :=
  fun b1 b2 => (rfl : (decodeBytes 0xB1 b1 b2).opcode = 0xB1)
theorem oraD : Statement .oraD :=
  fun b1 b2 => (rfl : (decodeBytes 0xB2 b1 b2).opcode = 0xB2)
theorem oraE : Statement .oraE :=
  fun b1 b2 => (rfl : (decodeBytes 0xB3 b1 b2).opcode = 0xB3)
theorem oraH : Statement .oraH :=
  fun b1 b2 => (rfl : (decodeBytes 0xB4 b1 b2).opcode = 0xB4)
theorem oraL : Statement .oraL :=
  fun b1 b2 => (rfl : (decodeBytes 0xB5 b1 b2).opcode = 0xB5)
theorem oraM : Statement .oraM :=
  fun b1 b2 => (rfl : (decodeBytes 0xB6 b1 b2).opcode = 0xB6)
theorem oraA : Statement .oraA :=
  fun b1 b2 => (rfl : (decodeBytes 0xB7 b1 b2).opcode = 0xB7)
theorem cmpB : Statement .cmpB :=
  fun b1 b2 => (rfl : (decodeBytes 0xB8 b1 b2).opcode = 0xB8)
theorem cmpC : Statement .cmpC :=
  fun b1 b2 => (rfl : (decodeBytes 0xB9 b1 b2).opcode = 0xB9)
theorem cmpD : Statement .cmpD :=
  fun b1 b2 => (rfl : (decodeBytes 0xBA b1 b2).opcode = 0xBA)
theorem cmpE : Statement .cmpE :=
  fun b1 b2 => (rfl : (decodeBytes 0xBB b1 b2).opcode = 0xBB)
theorem cmpH : Statement .cmpH :=
  fun b1 b2 => (rfl : (decodeBytes 0xBC b1 b2).opcode = 0xBC)
theorem cmpL : Statement .cmpL :=
  fun b1 b2 => (rfl : (decodeBytes 0xBD b1 b2).opcode = 0xBD)
theorem cmpM : Statement .cmpM :=
  fun b1 b2 => (rfl : (decodeBytes 0xBE b1 b2).opcode = 0xBE)
theorem cmpA : Statement .cmpA :=
  fun b1 b2 => (rfl : (decodeBytes 0xBF b1 b2).opcode = 0xBF)
theorem rnz : Statement .rnz :=
  fun b1 b2 => (rfl : (decodeBytes 0xC0 b1 b2).opcode = 0xC0)
theorem popB : Statement .popB :=
  fun b1 b2 => (rfl : (decodeBytes 0xC1 b1 b2).opcode = 0xC1)
theorem jnz (w : Word) : Statement (.jnz w) :=
  fun b1 b2 => (rfl : (decodeBytes 0xC2 b1 b2).opcode = 0xC2)
theorem jmp (w : Word) : Statement (.jmp w) :=
  fun b1 b2 => (rfl : (decodeBytes 0xC3 b1 b2).opcode = 0xC3)
theorem cnz (w : Word) : Statement (.cnz w) :=
  fun b1 b2 => (rfl : (decodeBytes 0xC4 b1 b2).opcode = 0xC4)
theorem pushB : Statement .pushB :=
  fun b1 b2 => (rfl : (decodeBytes 0xC5 b1 b2).opcode = 0xC5)
theorem adi (d : Byte) : Statement (.adi d) :=
  fun b1 b2 => (rfl : (decodeBytes 0xC6 b1 b2).opcode = 0xC6)
theorem rst0 : Statement .rst0 :=
  fun b1 b2 => (rfl : (decodeBytes 0xC7 b1 b2).opcode = 0xC7)
theorem rz : Statement .rz :=
  fun b1 b2 => (rfl : (decodeBytes 0xC8 b1 b2).opcode = 0xC8)
theorem ret : Statement .ret :=
  fun b1 b2 => (rfl : (decodeBytes 0xC9 b1 b2).opcode = 0xC9)
theorem jz (w : Word) : Statement (.jz w) :=
  fun b1 b2 => (rfl : (decodeBytes 0xCA b1 b2).opcode = 0xCA)
theorem illegalCB : Statement .illegalCB :=
  fun b1 b2 => (rfl : (decodeBytes 0xCB b1 b2).opcode = 0xCB)
theorem cz (w : Word) : Statement (.cz w) :=
  fun b1 b2 => (rfl : (decodeBytes 0xCC b1 b2).opcode = 0xCC)
theorem call (w : Word) : Statement (.call w) :=
  fun b1 b2 => (rfl : (decodeBytes 0xCD b1 b2).opcode = 0xCD)
theorem aci (d : Byte) : Statement (.aci d) :=
  fun b1 b2 => (rfl : (decodeBytes 0xCE b1 b2).opcode = 0xCE)
theorem rst1 : Statement .rst1 :=
  fun b1 b2 => (rfl : (decodeBytes 0xCF b1 b2).opcode = 0xCF)
theorem rnc : Statement .rnc :=
  fun b1 b2 => (rfl : (decodeBytes 0xD0 b1 b2).opcode = 0xD0)
theorem popD : Statement .popD :=
  fun b1 b2 => (rfl : (decodeBytes 0xD1 b1 b2).opcode = 0xD1)
theorem jnc (w : Word) : Statement (.jnc w) :=
  fun b1 b2 => (rfl : (decodeBytes 0xD2 b1 b2).opcode = 0xD2)
theorem outPort (d : Byte) : Statement (.outPort d) :=
  fun b1 b2 => (rfl : (decodeBytes 0xD3 b1 b2).opcode = 0xD3)
theorem cnc (w : Word) : Statement (.cnc w) :=
  fun b1 b2 => (rfl : (decodeBytes 0xD4 b1 b2).opcode = 0xD4)
theorem pushD : Statement .pushD :=
  fun b1 b2 => (rfl : (decodeBytes 0xD5 b1 b2).opcode = 0xD5)
theorem sui (d : Byte) : Statement (.sui d) :=
  fun b1 b2 => (rfl : (decodeBytes 0xD6 b1 b2).opcode = 0xD6)
theorem rst2 : Statement .rst2 :=
  fun b1 b2 => (rfl : (decodeBytes 0xD7 b1 b2).opcode = 0xD7)
theorem rc : Statement .rc :=
  fun b1 b2 => (rfl : (decodeBytes 0xD8 b1 b2).opcode = 0xD8)
theorem illegalD9 : Statement .illegalD9 :=
  fun b1 b2 => (rfl : (decodeBytes 0xD9 b1 b2).opcode = 0xD9)
theorem jc (w : Word) : Statement (.jc w) :=
  fun b1 b2 => (rfl : (decodeBytes 0xDA b1 b2).opcode = 0xDA)
theorem inPort (d : Byte) : Statement (.inPort d) :=
  fun b1 b2 => (rfl : (decodeBytes 0xDB b1 b2).opcode = 0xDB)
theorem cc (w : Word) : Statement (.cc w) :=
  fun b1 b2 => (rfl : (decodeBytes 0xDC b1 b2).opcode = 0xDC)
theorem illegalDD : Statement .illegalDD :=
  fun b1 b2 => (rfl : (decodeBytes 0xDD b1 b2).opcode = 0xDD)
theorem sbi (d : Byte) : Statement (.sbi d) :=
  fun b1 b2 => (rfl : (decodeBytes 0xDE b1 b2).opcode = 0xDE)
theorem rst3 : Statement .rst3 :=
  fun b1 b2 => (rfl : (decodeBytes 0xDF b1 b2).opcode = 0xDF)
theorem rpo : Statement .rpo :=
  fun b1 b2 => (rfl : (decodeBytes 0xE0 b1 b2).opcode = 0xE0)
theorem popH : Statement .popH :=
  fun b1 b2 => (rfl : (decodeBytes 0xE1 b1 b2).opcode = 0xE1)
theorem jpo (w : Word) : Statement (.jpo w) :=
  fun b1 b2 => (rfl : (decodeBytes 0xE2 b1 b2).opcode = 0xE2)
theorem xthl : Statement .xthl :=
  fun b1 b2 => (rfl : (decodeBytes 0xE3 b1 b2).opcode = 0xE3)
theorem cpo (w : Word) : Statement (.cpo w) :=
  fun b1 b2 => (rfl : (decodeBytes 0xE4 b1 b2).opcode = 0xE4)
theorem pushH : Statement .pushH :=
  fun b1 b2 => (rfl : (decodeBytes 0xE5 b1 b2).opcode = 0xE5)
theorem ani (d : Byte) : Statement (.ani d) :=
  fun b1 b2 => (rfl : (decodeBytes 0xE6 b1 b2).opcode = 0xE6)
theorem rst4 : Statement .rst4 :=
  fun b1 b2 => (rfl : (decodeBytes 0xE7 b1 b2).opcode = 0xE7)
theorem rpe : Statement .rpe :=
  fun b1 b2 => (rfl : (decodeBytes 0xE8 b1 b2).opcode = 0xE8)
theorem pchl : Statement .pchl :=
  fun b1 b2 => (rfl : (decodeBytes 0xE9 b1 b2).opcode = 0xE9)
theorem jpe (w : Word) : Statement (.jpe w) :=
  fun b1 b2 => (rfl : (decodeBytes 0xEA b1 b2).opcode = 0xEA)
theorem xchg : Statement .xchg :=
  fun b1 b2 => (rfl : (decodeBytes 0xEB b1 b2).opcode = 0xEB)
theorem cpe (w : Word) : Statement (.cpe w) :=
  fun b1 b2 => (rfl : (decodeBytes 0xEC b1 b2).opcode = 0xEC)
theorem illegalED : Statement .illegalED :=
  fun b1 b2 => (rfl : (decodeBytes 0xED b1 b2).opcode = 0xED)
theorem xri (d : Byte) : Statement (.xri d) :=
  fun b1 b2 => (rfl : (decodeBytes 0xEE b1 b2).opcode = 0xEE)
theorem rst5 : Statement .rst5 :=
  fun b1 b2 => (rfl : (decodeBytes 0xEF b1 b2).opcode = 0xEF)
theorem rp : Statement .rp :=
  fun b1 b2 => (rfl : (decodeBytes 0xF0 b1 b2).opcode = 0xF0)
theorem popPSW : Statement .popPSW :=
  fun b1 b2 => (rfl : (decodeBytes 0xF1 b1 b2).opcode = 0xF1)
theorem jp (w : Word) : Statement (.jp w) :=
  fun b1 b2 => (rfl : (decodeBytes 0xF2 b1 b2).opcode = 0xF2)
theorem di : Statement .di :=
  fun b1 b2 => (rfl : (decodeBytes 0xF3 b1 b2).opcode = 0xF3)
theorem cp (w : Word) : Statement (.cp w) :=
  fun b1 b2 => (rfl : (decodeBytes 0xF4 b1 b2).opcode = 0xF4)
theorem pushPSW : Statement .pushPSW :=
  fun b1 b2 => (rfl : (decodeBytes 0xF5 b1 b2).opcode = 0xF5)
theorem ori (d : Byte) : Statement (.ori d) :=
  fun b1 b2 => (rfl : (decodeBytes 0xF6 b1 b2).opcode = 0xF6)
theorem rst6 : Statement .rst6 :=
  fun b1 b2 => (rfl : (decodeBytes 0xF7 b1 b2).opcode = 0xF7)
theorem rm : Statement .rm :=
  fun b1 b2 => (rfl : (decodeBytes 0xF8 b1 b2).opcode = 0xF8)
theorem sphl : Statement .sphl :=
  fun b1 b2 => (rfl : (decodeBytes 0xF9 b1 b2).opcode = 0xF9)
theorem jm (w : Word) : Statement (.jm w) :=
  fun b1 b2 => (rfl : (decodeBytes 0xFA b1 b2).opcode = 0xFA)
theorem ei : Statement .ei :=
  fun b1 b2 => (rfl : (decodeBytes 0xFB b1 b2).opcode = 0xFB)
theorem cm (w : Word) : Statement (.cm w) :=
  fun b1 b2 => (rfl : (decodeBytes 0xFC b1 b2).opcode = 0xFC)
theorem illegalFD : Statement .illegalFD :=
  fun b1 b2 => (rfl : (decodeBytes 0xFD b1 b2).opcode = 0xFD)
theorem cpi (d : Byte) : Statement (.cpi d) :=
  fun b1 b2 => (rfl : (decodeBytes 0xFE b1 b2).opcode = 0xFE)
theorem rst7 : Statement .rst7 :=
  fun b1 b2 => (rfl : (decodeBytes 0xFF b1 b2).opcode = 0xFF)

end Sys2Proof.Laws.OpcodeSelects
end

