-- ==== Sys2Proof/Laws/Step.lean ====
section
/-! SUPPORT. What a boundary, a call of step() and a whole step have done if they answer next. -/

namespace Sys2Proof.Machine

/-! ## Interrupt entry -/

/-- An accepted request, with everything it does (60_exceptions.md R412). -/
theorem interrupt_accepted {n : IrqLine} {s : State} {hiAddr loAddr : Word} (hi : s.inte = true)
    (hhi : stackAddr s.cfg s.sp (-1) = .ok hiAddr) (hlo : stackAddr s.cfg s.sp (-2) = .ok loAddr) :
    interrupt n s = .next
      { (s.writeByte hiAddr (hi8 s.pc)).writeByte loAddr (lo8 s.pc) with
        inte := false, halted := false, sp := s.sp - 2, pc := n.vector } := by
  simp [interrupt, hi, push16, hhi, hlo, State.writeByte]

/-- A request while INTE is clear is lost (R411). -/
theorem interrupt_masked {n : IrqLine} {s : State} (hi : s.inte = false) : interrupt n s = .next s := by
  simp [interrupt, hi]

/-- A request leaves the registers, the flags, the ports, the frame, the report, the events, the free values drawn and
the parameters. -/
theorem interrupt_keeps {n : IrqLine} {s t : State} (h : interrupt n s = .next t) :
    t.regs = s.regs ∧ t.flags = s.flags ∧ t.ports = s.ports ∧ t.frame = s.frame ∧ t.report = s.report ∧
      t.env = s.env ∧ t.draws = s.draws ∧ t.cfg = s.cfg := by
  rcases interrupt_eq_next h with ⟨-, rfl⟩ | ⟨-, u, hu, rfl⟩
  · simp
  · obtain ⟨a, b, -, -, rfl⟩ := push16_eq_next hu
    simp

/-- A request keeps the canonical form of memory. -/
theorem interrupt_wf {n : IrqLine} {s t : State} (h : interrupt n s = .next t) (hw : s.mem.wf = true) :
    t.mem.wf = true := by
  rcases interrupt_eq_next h with ⟨-, rfl⟩ | ⟨-, u, hu, rfl⟩
  · exact hw
  · obtain ⟨a, b, -, -, rfl⟩ := push16_eq_next hu
    exact State.wf_writeByte _ _ _ (State.wf_writeByte _ _ _ hw)

/-- After a request INTE is clear, unless nothing happened. -/
theorem interrupt_inte {n : IrqLine} {s t : State} (h : interrupt n s = .next t) : t.inte = false := by
  rcases interrupt_eq_next h with ⟨hi, rfl⟩ | ⟨-, u, hu, rfl⟩
  · exact hi
  · obtain ⟨a, b, -, -, rfl⟩ := push16_eq_next hu
    rfl

/-! ## The boundary -/

theorem freeRequest_eq_next {r : Option IrqLine} {s t : State} (h : freeRequest r s = .next t) :
    (r = none ∧ t = s) ∨ ∃ n, r = some n ∧ interrupt n s = .next t := by
  cases r with
  | none => exact .inl ⟨rfl, (Host.Outcome.next.inj h).symm⟩
  | some n => exact .inr ⟨n, rfl, h⟩

/-- The frame scheduler leaves everything that a request leaves but its own count. -/
theorem frameRequests_keeps {fuel : Nat} {s t : State} (h : frameRequests fuel s = .next t) :
    t.regs = s.regs ∧ t.flags = s.flags ∧ t.ports = s.ports ∧ t.report = s.report ∧ t.env = s.env ∧
      t.draws = s.draws ∧ t.cfg = s.cfg := by
  induction fuel generalizing s with
  | zero => cases h; simp
  | succ fuel ih =>
    unfold frameRequests at h
    cases hh : s.frame.half <;> simp only [hh] at h <;> split at h
    · cases h; simp
    · obtain ⟨u, hu, h⟩ := chain_eq_next h
      have k := interrupt_keeps hu
      have m := ih h
      simp_all
    · cases h; simp
    · obtain ⟨u, hu, h⟩ := chain_eq_next h
      have k := interrupt_keeps hu
      have m := ih h
      simp_all

theorem frameRequests_wf {fuel : Nat} {s t : State} (h : frameRequests fuel s = .next t) (hw : s.mem.wf = true) :
    t.mem.wf = true := by
  induction fuel generalizing s with
  | zero => cases h; exact hw
  | succ fuel ih =>
    unfold frameRequests at h
    cases hh : s.frame.half <;> simp only [hh] at h <;> split at h
    · cases h; exact hw
    · obtain ⟨u, hu, h⟩ := chain_eq_next h
      exact ih h (interrupt_wf hu hw)
    · cases h; exact hw
    · obtain ⟨u, hu, h⟩ := chain_eq_next h
      exact ih h (interrupt_wf hu hw)

/-- A boundary answers with the requests of its schedule, made in the state after the host's actions. -/
theorem boundary_eq_next {s t : State} (h : boundary s = .next t) :
    (s.cfg.schedule = .free ∧ freeRequest s.nextEvent.request (takeEvent s) = .next t) ∨
    (s.cfg.schedule = .frame ∧ frameRequests 3 (takeEvent s) = .next t) := by
  unfold boundary at h
  cases hs : s.cfg.schedule <;> simp only [hs] at h
  · exact .inl ⟨rfl, h⟩
  · exact .inr ⟨rfl, h⟩

/-- A boundary leaves the registers, the flags, the report, the free values drawn and the parameters, takes one event, and does to the ports
what the event's host does. -/
theorem boundary_keeps {s t : State} (h : boundary s = .next t) :
    t.regs = s.regs ∧ t.flags = s.flags ∧ t.report = s.report ∧ t.cfg = s.cfg ∧ t.draws = s.draws ∧ t.env = s.env.tail ∧
      t.ports = hostActs s.nextEvent.host s.ports := by
  rcases boundary_eq_next h with ⟨-, h⟩ | ⟨-, h⟩
  · rcases freeRequest_eq_next h with ⟨-, rfl⟩ | ⟨n, -, h⟩
    · simp [takeEvent]
    · have k := interrupt_keeps h
      simp_all [takeEvent]
  · have k := frameRequests_keeps h
    simp_all [takeEvent]

theorem boundary_wf {s t : State} (h : boundary s = .next t) (hw : s.mem.wf = true) : t.mem.wf = true := by
  rcases boundary_eq_next h with ⟨-, h⟩ | ⟨-, h⟩
  · rcases freeRequest_eq_next h with ⟨-, rfl⟩ | ⟨n, -, h⟩
    · exact hw
    · exact interrupt_wf h hw
  · exact frameRequests_wf h hw

/-- With no event waiting, a boundary under `Free` does nothing. -/
theorem boundary_free_nil {s : State} (hs : s.cfg.schedule = .free) (he : s.env = []) : boundary s = .next s := by
  cases s
  simp_all [boundary, State.nextEvent, takeEvent, freeRequest, hostActs]

@[simp] theorem countCycles_regs (s : State) : (countCycles s).regs = s.regs := by unfold countCycles; split <;> rfl
@[simp] theorem countCycles_flags (s : State) : (countCycles s).flags = s.flags := by unfold countCycles; split <;> rfl
@[simp] theorem countCycles_sp (s : State) : (countCycles s).sp = s.sp := by unfold countCycles; split <;> rfl
@[simp] theorem countCycles_pc (s : State) : (countCycles s).pc = s.pc := by unfold countCycles; split <;> rfl
@[simp] theorem countCycles_inte (s : State) : (countCycles s).inte = s.inte := by unfold countCycles; split <;> rfl
@[simp] theorem countCycles_halted (s : State) : (countCycles s).halted = s.halted := by unfold countCycles; split <;> rfl
@[simp] theorem countCycles_mem (s : State) : (countCycles s).mem = s.mem := by unfold countCycles; split <;> rfl
@[simp] theorem countCycles_ports (s : State) : (countCycles s).ports = s.ports := by unfold countCycles; split <;> rfl
@[simp] theorem countCycles_report (s : State) : (countCycles s).report = s.report := by unfold countCycles; split <;> rfl
@[simp] theorem countCycles_env (s : State) : (countCycles s).env = s.env := by unfold countCycles; split <;> rfl
@[simp] theorem countCycles_draws (s : State) : (countCycles s).draws = s.draws := by unfold countCycles; split <;> rfl
@[simp] theorem countCycles_cfg (s : State) : (countCycles s).cfg = s.cfg := by unfold countCycles; split <;> rfl

theorem countCycles_free {s : State} (hs : s.cfg.schedule = .free) : countCycles s = s := by
  simp [countCycles, hs]

/-! ## One call of step(), and a whole step -/

/-- A step that fetches nothing changes its report and nothing else. -/
theorem idle_eq_some {s t : State} (h : idle s = some t) : ∃ r, t = s.setReport r := by
  unfold idle at h
  split at h
  · exact ⟨_, (Option.some.inj h).symm⟩
  · split at h
    · exact ⟨_, (Option.some.inj h).symm⟩
    · simp at h

theorem idle_eq_none {s : State} : idle s = none ↔ s.ports.paused = false ∧ s.halted = false := by
  unfold idle
  cases s.ports.paused <;> cases s.halted <;> simp

/-- A call of step() either fetches nothing or executes the instruction it fetched. -/
theorem coreStep_eq_next {s t : State} (h : coreStep s = .next t) :
    (∃ r, t = s.setReport r) ∨
    (s.ports.paused = false ∧ s.halted = false ∧ ∃ i, fetch s = .ok i ∧ exec i s = .next t) := by
  unfold coreStep at h
  cases hi : idle s with
  | some u =>
    simp only [hi] at h
    cases h
    exact .inl (idle_eq_some hi)
  | none =>
    simp only [hi] at h
    cases hf : fetch s with
    | error x => simp [hf] at h
    | ok i =>
      simp only [hf] at h
      exact .inr ⟨(idle_eq_none.mp hi).1, (idle_eq_none.mp hi).2, i, rfl, h⟩

/-- A step is a boundary, a call of step() and the frame scheduler's count. -/
theorem step_eq_next {s t : State} (h : step s = .next t) :
    s.ended = false ∧ ∃ u v, boundary s = .next u ∧ coreStep u = .next v ∧ t = countCycles v := by
  unfold step at h
  cases he : s.ended with
  | true => simp [he] at h
  | false =>
    simp only [he] at h
    obtain ⟨u, hu, h⟩ := chain_eq_next h
    obtain ⟨v, hv, h⟩ := chain_eq_next h
    exact ⟨rfl, u, v, hu, hv, (Host.Outcome.next.inj h).symm⟩

/-- What the fetch answers when it answers an instruction: the opcode is implemented, both operand addresses exist, and
the three bytes decode to the instruction. -/
theorem fetch_eq_ok {s : State} {i : Instr} (h : fetch s = .ok i) :
    s.readByte s.pc ∉ s.cfg.unimplemented ∧ ∃ a1 a2, dataAddr s.cfg s.pc 1 = .ok a1 ∧ dataAddr s.cfg s.pc 2 = .ok a2 ∧
      i = decodeBytes (s.readByte s.pc) (s.readByte a1) (s.readByte a2) := by
  by_cases hop : s.readByte s.pc ∈ s.cfg.unimplemented
  · simp [fetch, hop] at h
  · cases h1 : dataAddr s.cfg s.pc 1 with
    | error n => simp [fetch, hop, h1] at h
    | ok a1 =>
      cases h2 : dataAddr s.cfg s.pc 2 with
      | error n => simp [fetch, hop, h1, h2] at h
      | ok a2 =>
        simp only [fetch, hop, h1, h2, if_false] at h
        exact ⟨hop, a1, a2, rfl, rfl, (Except.ok.inj h).symm⟩

end Sys2Proof.Machine
end

