-- ==== Sys2Proof/Tests/Slice0.lean ====
section
/-! SUPPORT. The model's own tests.  Expected values come from the spec: the words from its encodings (30_encoding.md R124
to R136; files 40 to 48) and its opcode table, the results from the vectors and programs of 95_test_vectors.md (a name
ends in the vector's number), the cycles from 70_reset_and_hazards.md R520.  The last part has, for every statement with
hypotheses, states and operands that meet them, at the ends of their ranges. -/

open Sys2Proof Sys2Proof.Machine

namespace Sys2Proof.Tests

/-! ## Small states -/

/-- A start state of 95_test_vectors.md: what is not given has the value Part 2 gives it there. -/
structure Start where
  bytes : List Byte
  b : Byte := 0
  c : Byte := 0
  d : Byte := 0
  e : Byte := 0
  h : Byte := 0
  l : Byte := 0
  a : Byte := 0
  s : Bool := false
  z : Bool := false
  ac : Bool := false
  p : Bool := false
  cy : Bool := false
  sp : Word := 0x2400
  pc : Word := 0x0100
  inte : Bool := false
  halted : Bool := false
  paused : Bool := false
  shiftValue : BitVec 16 := 0
  shiftOffset : BitVec 3 := 0
  mem : List Host.Cell := []
  harness : Bool := false
  daa : DaaCarry := .wide
  data : AddrPolicy := .fault
  stack : AddrPolicy := .wrap
  schedule : Schedule := .free
  budget : Nat := 100
  half : Nat := 50
  frame : Frame := { cycles := 0, half := .first, returned := 0 }
  env : List Boundary := []

/-- The cells stored one after the other. -/
def storeCells (cells : List Host.Cell) (m : Memory) : Memory :=
  match cells with
  | [] => m
  | (a, v) :: rest => storeCells rest (m.write a v)

/-- The state with the instruction's bytes at PC. -/
def Start.state (x : Start) : State where
  regs := { b := x.b, c := x.c, d := x.d, e := x.e, h := x.h, l := x.l, a := x.a }
  flags := { s := x.s, z := x.z, ac := x.ac, p := x.p, cy := x.cy }
  sp := x.sp
  pc := x.pc
  inte := x.inte
  halted := x.halted
  mem := storeCells x.mem (Memory.writeBytes [] x.pc.toNat x.bytes)
  ports := { State.reset.ports with shiftValue := x.shiftValue, shiftOffset := x.shiftOffset, paused := x.paused }
  frame := x.frame
  report := { status := .cont, cycles := 0 }
  env := x.env
  draws := 0
  cfg := { Config.default with
    testHarness := x.harness, daaCarry := x.daa, dataAddrPolicy := x.data, stackAddrPolicy := x.stack,
    schedule := x.schedule, cyclesPerFrame := x.budget, halfFrameCycles := x.half }

/-- The next state of an answer. -/
def nextOf (r : Res) : Option State :=
  match r with
  | .next t => some t
  | .fault _ => none
  | .refused _ => none

/-- The fatal condition of an answer. -/
def faultOf (r : Res) : Option Fault :=
  match r with
  | .next _ => none
  | .fault x => some x
  | .refused _ => none

/-- The refusal of an answer. -/
def refusalOf (r : Res) : Option Refusal :=
  match r with
  | .next _ => none
  | .fault _ => none
  | .refused x => some x

/-- How a status ends a run, without the text of its message, which is a free value. -/
inductive Ending where
  | goesOn | success | failure (backtrace : Int)
  deriving DecidableEq, Repr

def ending (x : Status) : Ending :=
  match x with
  | .cont => .goesOn
  | .paused => .goesOn
  | .success _ => .success
  | .failure _ b => .failure b

/-- What is seen of the state after one step. -/
def after {α : Type} (x : Start) (f : State → α) : Option α := (nextOf (step x.state)).map f

/-- The fatal condition one step ends in. -/
def stopOf (x : Start) : Option Fault := faultOf (step x.state)

/-- S Z AC P CY as the spec's tables write them. -/
def bits (f : Flags) : List Nat := [f.s.toNat, f.z.toNat, f.ac.toNat, f.p.toNat, f.cy.toNat]

/-! ## Well-formedness: each ill-formed term is refused -/

theorem test_wellFormed_refuses_each_illegal_term :
    Instr.illegal08.wellFormed = false ∧ Instr.illegal10.wellFormed = false ∧ Instr.illegal18.wellFormed = false ∧
    Instr.illegal20.wellFormed = false ∧ Instr.illegal28.wellFormed = false ∧ Instr.illegal30.wellFormed = false ∧
    Instr.illegal38.wellFormed = false ∧ Instr.illegalCB.wellFormed = false ∧ Instr.illegalD9.wellFormed = false ∧
    Instr.illegalDD.wellFormed = false ∧ Instr.illegalED.wellFormed = false ∧ Instr.illegalFD.wellFormed = false := by
  decide

theorem test_wellFormed_takes_an_instruction : (Instr.lxiH 0x1234).wellFormed = true := by decide

/-! ## Decoding: a word for every constructor -/

def words0x : List (List Byte × Instr) :=
  [([0x00], .nop), ([0x01, 0x34, 0x12], .lxiB 0x1234), ([0x02], .staxB), ([0x03], .inxB), ([0x04], .inrB),
   ([0x05], .dcrB), ([0x06, 0x5A], .mviB 0x5A), ([0x07], .rlc), ([0x08], .illegal08), ([0x09], .dadB),
   ([0x0A], .ldaxB), ([0x0B], .dcxB), ([0x0C], .inrC), ([0x0D], .dcrC), ([0x0E, 0x5A], .mviC 0x5A), ([0x0F], .rrc)]

def words1x : List (List Byte × Instr) :=
  [([0x10], .illegal10), ([0x11, 0x34, 0x12], .lxiD 0x1234), ([0x12], .staxD), ([0x13], .inxD), ([0x14], .inrD),
   ([0x15], .dcrD), ([0x16, 0x5A], .mviD 0x5A), ([0x17], .ral), ([0x18], .illegal18), ([0x19], .dadD),
   ([0x1A], .ldaxD), ([0x1B], .dcxD), ([0x1C], .inrE), ([0x1D], .dcrE), ([0x1E, 0x5A], .mviE 0x5A), ([0x1F], .rar)]

def words2x : List (List Byte × Instr) :=
  [([0x20], .illegal20), ([0x21, 0x34, 0x12], .lxiH 0x1234), ([0x22, 0x34, 0x12], .shld 0x1234), ([0x23], .inxH),
   ([0x24], .inrH), ([0x25], .dcrH), ([0x26, 0x5A], .mviH 0x5A), ([0x27], .daa), ([0x28], .illegal28),
   ([0x29], .dadH), ([0x2A, 0x34, 0x12], .lhld 0x1234), ([0x2B], .dcxH), ([0x2C], .inrL), ([0x2D], .dcrL),
   ([0x2E, 0x5A], .mviL 0x5A), ([0x2F], .cma)]

def words3x : List (List Byte × Instr) :=
  [([0x30], .illegal30), ([0x31, 0x34, 0x12], .lxiSP 0x1234), ([0x32, 0x34, 0x12], .sta 0x1234), ([0x33], .inxSP),
   ([0x34], .inrM), ([0x35], .dcrM), ([0x36, 0x5A], .mviM 0x5A), ([0x37], .stc), ([0x38], .illegal38),
   ([0x39], .dadSP), ([0x3A, 0x34, 0x12], .lda 0x1234), ([0x3B], .dcxSP), ([0x3C], .inrA), ([0x3D], .dcrA),
   ([0x3E, 0x5A], .mviA 0x5A), ([0x3F], .cmc)]

def words4x : List (List Byte × Instr) :=
  [([0x40], .movBB), ([0x41], .movBC), ([0x42], .movBD), ([0x43], .movBE), ([0x44], .movBH), ([0x45], .movBL),
   ([0x46], .movBM), ([0x47], .movBA), ([0x48], .movCB), ([0x49], .movCC), ([0x4A], .movCD), ([0x4B], .movCE),
   ([0x4C], .movCH), ([0x4D], .movCL), ([0x4E], .movCM), ([0x4F], .movCA)]

def words5x : List (List Byte × Instr) :=
  [([0x50], .movDB), ([0x51], .movDC), ([0x52], .movDD), ([0x53], .movDE), ([0x54], .movDH), ([0x55], .movDL),
   ([0x56], .movDM), ([0x57], .movDA), ([0x58], .movEB), ([0x59], .movEC), ([0x5A], .movED), ([0x5B], .movEE),
   ([0x5C], .movEH), ([0x5D], .movEL), ([0x5E], .movEM), ([0x5F], .movEA)]

def words6x : List (List Byte × Instr) :=
  [([0x60], .movHB), ([0x61], .movHC), ([0x62], .movHD), ([0x63], .movHE), ([0x64], .movHH), ([0x65], .movHL),
   ([0x66], .movHM), ([0x67], .movHA), ([0x68], .movLB), ([0x69], .movLC), ([0x6A], .movLD), ([0x6B], .movLE),
   ([0x6C], .movLH), ([0x6D], .movLL), ([0x6E], .movLM), ([0x6F], .movLA)]

def words7x : List (List Byte × Instr) :=
  [([0x70], .movMB), ([0x71], .movMC), ([0x72], .movMD), ([0x73], .movME), ([0x74], .movMH), ([0x75], .movML),
   ([0x76], .hlt), ([0x77], .movMA), ([0x78], .movAB), ([0x79], .movAC), ([0x7A], .movAD), ([0x7B], .movAE),
   ([0x7C], .movAH), ([0x7D], .movAL), ([0x7E], .movAM), ([0x7F], .movAA)]

def words8x : List (List Byte × Instr) :=
  [([0x80], .addB), ([0x81], .addC), ([0x82], .addD), ([0x83], .addE), ([0x84], .addH), ([0x85], .addL),
   ([0x86], .addM), ([0x87], .addA), ([0x88], .adcB), ([0x89], .adcC), ([0x8A], .adcD), ([0x8B], .adcE),
   ([0x8C], .adcH), ([0x8D], .adcL), ([0x8E], .adcM), ([0x8F], .adcA)]

def words9x : List (List Byte × Instr) :=
  [([0x90], .subB), ([0x91], .subC), ([0x92], .subD), ([0x93], .subE), ([0x94], .subH), ([0x95], .subL),
   ([0x96], .subM), ([0x97], .subA), ([0x98], .sbbB), ([0x99], .sbbC), ([0x9A], .sbbD), ([0x9B], .sbbE),
   ([0x9C], .sbbH), ([0x9D], .sbbL), ([0x9E], .sbbM), ([0x9F], .sbbA)]

def wordsAx : List (List Byte × Instr) :=
  [([0xA0], .anaB), ([0xA1], .anaC), ([0xA2], .anaD), ([0xA3], .anaE), ([0xA4], .anaH), ([0xA5], .anaL),
   ([0xA6], .anaM), ([0xA7], .anaA), ([0xA8], .xraB), ([0xA9], .xraC), ([0xAA], .xraD), ([0xAB], .xraE),
   ([0xAC], .xraH), ([0xAD], .xraL), ([0xAE], .xraM), ([0xAF], .xraA)]

def wordsBx : List (List Byte × Instr) :=
  [([0xB0], .oraB), ([0xB1], .oraC), ([0xB2], .oraD), ([0xB3], .oraE), ([0xB4], .oraH), ([0xB5], .oraL),
   ([0xB6], .oraM), ([0xB7], .oraA), ([0xB8], .cmpB), ([0xB9], .cmpC), ([0xBA], .cmpD), ([0xBB], .cmpE),
   ([0xBC], .cmpH), ([0xBD], .cmpL), ([0xBE], .cmpM), ([0xBF], .cmpA)]

def wordsCx : List (List Byte × Instr) :=
  [([0xC0], .rnz), ([0xC1], .popB), ([0xC2, 0x34, 0x12], .jnz 0x1234), ([0xC3, 0x34, 0x12], .jmp 0x1234),
   ([0xC4, 0x34, 0x12], .cnz 0x1234), ([0xC5], .pushB), ([0xC6, 0x5A], .adi 0x5A), ([0xC7], .rst0), ([0xC8], .rz),
   ([0xC9], .ret), ([0xCA, 0x34, 0x12], .jz 0x1234), ([0xCB], .illegalCB), ([0xCC, 0x34, 0x12], .cz 0x1234),
   ([0xCD, 0x34, 0x12], .call 0x1234), ([0xCE, 0x5A], .aci 0x5A), ([0xCF], .rst1)]

def wordsDx : List (List Byte × Instr) :=
  [([0xD0], .rnc), ([0xD1], .popD), ([0xD2, 0x34, 0x12], .jnc 0x1234), ([0xD3, 0x5A], .outPort 0x5A),
   ([0xD4, 0x34, 0x12], .cnc 0x1234), ([0xD5], .pushD), ([0xD6, 0x5A], .sui 0x5A), ([0xD7], .rst2), ([0xD8], .rc),
   ([0xD9], .illegalD9), ([0xDA, 0x34, 0x12], .jc 0x1234), ([0xDB, 0x5A], .inPort 0x5A),
   ([0xDC, 0x34, 0x12], .cc 0x1234), ([0xDD], .illegalDD), ([0xDE, 0x5A], .sbi 0x5A), ([0xDF], .rst3)]

def wordsEx : List (List Byte × Instr) :=
  [([0xE0], .rpo), ([0xE1], .popH), ([0xE2, 0x34, 0x12], .jpo 0x1234), ([0xE3], .xthl),
   ([0xE4, 0x34, 0x12], .cpo 0x1234), ([0xE5], .pushH), ([0xE6, 0x5A], .ani 0x5A), ([0xE7], .rst4), ([0xE8], .rpe),
   ([0xE9], .pchl), ([0xEA, 0x34, 0x12], .jpe 0x1234), ([0xEB], .xchg), ([0xEC, 0x34, 0x12], .cpe 0x1234),
   ([0xED], .illegalED), ([0xEE, 0x5A], .xri 0x5A), ([0xEF], .rst5)]

def wordsFx : List (List Byte × Instr) :=
  [([0xF0], .rp), ([0xF1], .popPSW), ([0xF2, 0x34, 0x12], .jp 0x1234), ([0xF3], .di),
   ([0xF4, 0x34, 0x12], .cp 0x1234), ([0xF5], .pushPSW), ([0xF6, 0x5A], .ori 0x5A), ([0xF7], .rst6), ([0xF8], .rm),
   ([0xF9], .sphl), ([0xFA, 0x34, 0x12], .jm 0x1234), ([0xFB], .ei), ([0xFC, 0x34, 0x12], .cm 0x1234),
   ([0xFD], .illegalFD), ([0xFE, 0x5A], .cpi 0x5A), ([0xFF], .rst7)]

/-- Every entry's bytes, with one more byte after them, decode to the entry's instruction and leave that byte, and the
instruction is encoded by the entry's bytes. -/
def allDecode (entries : List (List Byte × Instr)) : Bool :=
  entries.all fun e =>
    encode e.2 == e.1 &&
      match decode (e.1 ++ [0x76]) with
      | .ok (i, rest) => i == e.2 && rest == [0x76]
      | .error _ => false

theorem test_decode_quadrant_00 : allDecode (words0x ++ words1x ++ words2x ++ words3x) = true := by decide +kernel
theorem test_decode_quadrant_01 : allDecode (words4x ++ words5x ++ words6x ++ words7x) = true := by decide +kernel
theorem test_decode_quadrant_10 : allDecode (words8x ++ words9x ++ wordsAx ++ wordsBx) = true := by decide +kernel
theorem test_decode_quadrant_11 : allDecode (wordsCx ++ wordsDx ++ wordsEx ++ wordsFx) = true := by decide +kernel

/-! One word of each family, bit by bit: the group, the fields with the codes of R125 to R128, and the operand bytes. -/

/-- NOP 00 000 000; MOV C,B 01 001 000 (R129). -/
theorem test_bits_nop_and_mov :
    decode [0b00000000] = .ok (.nop, []) ∧ decode [0b01001000] = .ok (.movCB, []) := by decide

/-- LXI H 00 10 0001 (rp = 10) and its low byte first; SHLD 00 100 010 (R135). -/
theorem test_bits_lxi_and_shld :
    decode [0b00100001, 0b00110100, 0b00010010] = .ok (.lxiH 0x1234, []) ∧
    decode [0b00100010, 0x00, 0x20] = .ok (.shld 0x2000, []) := by decide

/-- DAD SP 00 11 1001; DCX D 00 01 1011. -/
theorem test_bits_dad_and_dcx :
    decode [0b00111001] = .ok (.dadSP, []) ∧ decode [0b00011011] = .ok (.dcxD, []) := by decide

/-- INR M 00 110 100; DCR A 00 111 101. -/
theorem test_bits_inr_and_dcr :
    decode [0b00110100] = .ok (.inrM, []) ∧ decode [0b00111101] = .ok (.dcrA, []) := by decide

/-- SBB L 10 011 101 (R131); SUI 11 010 110 (R132). -/
theorem test_bits_arithmetic :
    decode [0b10011101] = .ok (.sbbL, []) ∧ decode [0b11010110, 0x01] = .ok (.sui 0x01, []) := by decide

/-- XRA E 10 101 011; CPI 11 111 110. -/
theorem test_bits_logic :
    decode [0b10101011] = .ok (.xraE, []) ∧ decode [0b11111110, 0x40] = .ok (.cpi 0x40, []) := by decide

/-- RAR 00 011 111; DAA 00 100 111. -/
theorem test_bits_rotate :
    decode [0b00011111] = .ok (.rar, []) ∧ decode [0b00100111] = .ok (.daa, []) := by decide

/-- JPE 11 101 010 (ccc = 101); RM 11 111 000; RST 5 11 101 111. -/
theorem test_bits_branch :
    decode [0b11101010, 0x00, 0x02] = .ok (.jpe 0x0200, []) ∧ decode [0b11111000] = .ok (.rm, []) ∧
    decode [0b11101111] = .ok (.rst5, []) := by decide

/-- PUSH PSW 11 11 0101; POP D 11 01 0001; XTHL 11 100 011. -/
theorem test_bits_stack :
    decode [0b11110101] = .ok (.pushPSW, []) ∧ decode [0b11010001] = .ok (.popD, []) ∧
    decode [0b11100011] = .ok (.xthl, []) := by decide

/-- OUT 11 010 011; HLT 01 110 110; EI 11 111 011. -/
theorem test_bits_control :
    decode [0b11010011, 0x04] = .ok (.outPort 0x04, []) ∧ decode [0b01110110] = .ok (.hlt, []) ∧
    decode [0b11111011] = .ok (.ei, []) := by decide

/-- A table word's first byte is its least significant one: CALL 0x1234 is CD 34 12. -/
theorem test_decodeTableWord :
    decodeTableWord 24 0x1234CD = some (.call 0x1234) ∧ decodeTableWord 8 0x76 = some .hlt ∧
    decodeTableWord 8 0x3E = some (.mviA 0x00) := by decide

/-- The host's word runs as the first instruction after reset: LXI SP, then OUT. -/
theorem test_withFetchWord :
    (nextOf (step (State.reset.withFetchWord 24 0x123431))).map (fun t => (t.sp, t.pc)) = some (0x1234, 0x0003) ∧
    (nextOf (step (State.reset.withFetchWord 8 0xD3))).map (fun t => t.pc) = some 0x0002 := by decide

/-! ## One step: the vectors of 95_test_vectors.md -/

theorem test_mov_c_b_v2 :
    after { bytes := [0x48], b := 0x12 } (fun t => (t.regs.c, t.pc)) = some (0x12, 0x0101) := by decide
theorem test_mov_a_m_v4 :
    after { bytes := [0x7E], h := 0x20, mem := [(0x2000, 0x5A)] } (fun t => (t.regs.a, t.pc))
      = some (0x5A, 0x0101) := by decide
theorem test_mov_m_h_v6 :
    after { bytes := [0x74], h := 0x20, l := 0x05 } (fun t => (t.pc, t.mem.read 0x2005)) = some (0x0101, 0x20) := by decide
theorem test_mvi_b_03_v7 :
    after { bytes := [0x06, 0x03] } (fun t => (t.regs.b, t.pc)) = some (0x03, 0x0102) := by decide
theorem test_mvi_m_ff_v8 :
    after { bytes := [0x36, 0xFF], h := 0x24 } (fun t => (t.pc, t.mem.read 0x2400)) = some (0x0102, 0xFF) := by decide
theorem test_lxi_h_1234_v9 :
    after { bytes := [0x21, 0x34, 0x12] } (fun t => (t.regs.h, t.regs.l, t.pc)) = some (0x12, 0x34, 0x0103) := by decide
theorem test_lxi_sp_2400_v10 :
    after { bytes := [0x31, 0x00, 0x24], sp := 0x0000 } (fun t => (t.sp, t.pc)) = some (0x2400, 0x0103) := by decide
theorem test_lda_20c0_v11 :
    after { bytes := [0x3A, 0xC0, 0x20], mem := [(0x20C0, 0x07)] } (fun t => (t.regs.a, t.pc))
      = some (0x07, 0x0103) := by decide
theorem test_sta_2010_v12 :
    after { bytes := [0x32, 0x10, 0x20], a := 0x42 } (fun t => (t.pc, t.mem.read 0x2010)) = some (0x0103, 0x42) := by decide
theorem test_lhld_2000_v13 :
    after { bytes := [0x2A, 0x00, 0x20], mem := [(0x2000, 0xCD), (0x2001, 0xAB)] } (fun t => (t.regs.h, t.regs.l, t.pc))
      = some (0xAB, 0xCD, 0x0103) := by decide
theorem test_shld_2000_v14 :
    after { bytes := [0x22, 0x00, 0x20], h := 0x12, l := 0x34 } (fun t => (t.pc, t.mem.read 0x2000, t.mem.read 0x2001))
      = some (0x0103, 0x34, 0x12) := by decide
theorem test_shld_ffff_v15 :
    stopOf { bytes := [0x22, 0xFF, 0xFF], h := 0x12, l := 0x34 } = some (.addressOutOfRange 0x10000 0x0100) := by decide
theorem test_ldax_d_v16 :
    after { bytes := [0x1A], d := 0x1B, mem := [(0x1B00, 0x20)] } (fun t => (t.regs.a, t.pc))
      = some (0x20, 0x0101) := by decide
theorem test_stax_b_v17 :
    after { bytes := [0x02], b := 0x21, a := 0x01 } (fun t => (t.pc, t.mem.read 0x2100)) = some (0x0101, 0x01) := by decide
theorem test_inx_h_v18 :
    after { bytes := [0x23], h := 0x20, l := 0xFF } (fun t => (t.regs.h, t.regs.l, t.pc))
      = some (0x21, 0x00, 0x0101) := by decide
theorem test_inx_sp_v19 :
    after { bytes := [0x33], sp := 0xFFFF } (fun t => (t.sp, t.pc)) = some (0x0000, 0x0101) := by decide
theorem test_dcx_b_v21 :
    after { bytes := [0x0B], z := true } (fun t => (t.regs.b, t.regs.c, t.pc)) = some (0xFF, 0xFF, 0x0101) := by decide
theorem test_dad_d_v23 :
    after { bytes := [0x19], h := 0x12, l := 0x34, d := 0x11, e := 0x11, cy := true } (fun t => (t.regs.h, t.regs.l, bits t.flags))
      = some (0x23, 0x45, [0, 0, 0, 0, 0]) := by decide
theorem test_dad_sp_v25 :
    after { bytes := [0x39], l := 0x10, sp := 0xFFF0 } (fun t => (t.regs.l, bits t.flags))
      = some (0x00, [0, 0, 0, 0, 1]) := by decide
theorem test_inr_a_v26 :
    after { bytes := [0x3C], a := 0xFF, cy := true } (fun t => (t.regs.a, bits t.flags))
      = some (0x00, [0, 1, 1, 1, 1]) := by decide
theorem test_inr_m_v28 :
    after { bytes := [0x34], h := 0x20, mem := [(0x2000, 0x7F)] } (fun t => (t.mem.read 0x2000, bits t.flags))
      = some (0x80, [1, 0, 1, 0, 0]) := by decide
theorem test_dcr_a_v29 :
    after { bytes := [0x3D] } (fun t => (t.regs.a, bits t.flags)) = some (0xFF, [1, 0, 1, 1, 1]) := by decide
theorem test_dcr_c_v30 :
    after { bytes := [0x0D], c := 0x01, cy := true } (fun t => (t.regs.c, bits t.flags))
      = some (0x00, [0, 1, 1, 1, 1]) := by decide
theorem test_dcr_m_v33 :
    after { bytes := [0x35], h := 0x20, mem := [(0x2000, 0x00)] } (fun t => (t.mem.read 0x2000, bits t.flags))
      = some (0xFF, [1, 0, 1, 1, 1]) := by decide
theorem test_add_b_v34 :
    after { bytes := [0x80], a := 0x45, b := 0x55 } (fun t => (t.regs.a, bits t.flags))
      = some (0x9A, [1, 0, 0, 1, 0]) := by decide
theorem test_adc_c_v36 :
    after { bytes := [0x89], a := 0xFF, cy := true } (fun t => (t.regs.a, bits t.flags))
      = some (0x00, [0, 1, 1, 1, 1]) := by decide
theorem test_adi_01_v38 :
    after { bytes := [0xC6, 0x01], a := 0x7F } (fun t => (t.regs.a, bits t.flags))
      = some (0x80, [1, 0, 1, 0, 0]) := by decide
theorem test_aci_00_v39 :
    after { bytes := [0xCE, 0x00], cy := true } (fun t => (t.regs.a, bits t.flags))
      = some (0x01, [0, 0, 0, 0, 0]) := by decide
theorem test_sub_b_v40 :
    after { bytes := [0x90], b := 0x01 } (fun t => (t.regs.a, bits t.flags)) = some (0xFF, [1, 0, 0, 1, 1]) := by decide
theorem test_sbb_c_v42 :
    after { bytes := [0x99], a := 0x10, c := 0x0F, cy := true } (fun t => (t.regs.a, bits t.flags))
      = some (0x00, [0, 1, 0, 1, 0]) := by decide
theorem test_sui_01_v43 :
    after { bytes := [0xD6, 0x01], a := 0x80 } (fun t => (t.regs.a, bits t.flags))
      = some (0x7F, [0, 0, 0, 0, 0]) := by decide
theorem test_sbi_ff_v44 :
    after { bytes := [0xDE, 0xFF], a := 0xFF, cy := true } (fun t => bits t.flags) = some [1, 0, 0, 1, 1] := by decide
theorem test_ana_b_v45 :
    after { bytes := [0xA0], a := 0xF0, b := 0x3C } (fun t => (t.regs.a, bits t.flags))
      = some (0x30, [0, 0, 1, 1, 0]) := by decide
theorem test_ani_0f_v47 :
    after { bytes := [0xE6, 0x0F], a := 0x3A } (fun t => (t.regs.a, bits t.flags))
      = some (0x0A, [0, 0, 1, 1, 0]) := by decide
theorem test_xra_a_v48 :
    after { bytes := [0xAF], a := 0x5A, cy := true, ac := true } (fun t => (t.regs.a, bits t.flags))
      = some (0x00, [0, 1, 0, 1, 0]) := by decide
theorem test_xri_ff_v49 :
    after { bytes := [0xEE, 0xFF], a := 0x0F } (fun t => (t.regs.a, bits t.flags))
      = some (0xF0, [1, 0, 0, 1, 0]) := by decide
theorem test_ora_b_v50 :
    after { bytes := [0xB0], cy := true } (fun t => bits t.flags) = some [0, 1, 0, 1, 0] := by decide
theorem test_ori_80_v51 :
    after { bytes := [0xF6, 0x80], a := 0x01 } (fun t => (t.regs.a, bits t.flags))
      = some (0x81, [1, 0, 0, 1, 0]) := by decide
theorem test_cmp_b_v52 :
    after { bytes := [0xB8], a := 0x05, b := 0x05 } (fun t => bits t.flags) = some [0, 1, 1, 1, 0] := by decide
theorem test_cmp_c_v53 :
    after { bytes := [0xB9], a := 0x05, c := 0x06 } (fun t => bits t.flags) = some [1, 0, 0, 1, 1] := by decide
theorem test_cpi_40_v54 :
    after { bytes := [0xFE, 0x40], a := 0x80 } (fun t => bits t.flags) = some [0, 0, 1, 0, 0] := by decide
theorem test_rlc_v56 :
    after { bytes := [0x07], a := 0x80 } (fun t => (t.regs.a, bits t.flags)) = some (0x01, [0, 0, 0, 0, 1]) := by decide
theorem test_rrc_v57 :
    after { bytes := [0x0F], a := 0x01 } (fun t => (t.regs.a, bits t.flags)) = some (0x80, [0, 0, 0, 0, 1]) := by decide
theorem test_ral_v59 :
    after { bytes := [0x17], cy := true } (fun t => (t.regs.a, bits t.flags)) = some (0x01, [0, 0, 0, 0, 0]) := by decide
theorem test_rar_v60 :
    after { bytes := [0x1F], a := 0x01, cy := true } (fun t => (t.regs.a, bits t.flags))
      = some (0x80, [0, 0, 0, 0, 1]) := by decide
theorem test_cma_v61 :
    after { bytes := [0x2F], a := 0x51, z := true } (fun t => (t.regs.a, t.pc)) = some (0xAE, 0x0101) := by decide
theorem test_stc_v62 : after { bytes := [0x37] } (fun t => bits t.flags) = some [0, 0, 0, 0, 1] := by decide
theorem test_cmc_v63 : after { bytes := [0x3F], cy := true } (fun t => bits t.flags) = some [0, 0, 0, 0, 0] := by decide
theorem test_daa_v64 :
    after { bytes := [0x27], a := 0x9A } (fun t => (t.regs.a, bits t.flags)) = some (0x00, [0, 1, 1, 1, 1]) := by decide
theorem test_daa_v66 :
    after { bytes := [0x27], cy := true } (fun t => (t.regs.a, bits t.flags)) = some (0x60, [0, 0, 0, 1, 1]) := by decide
theorem test_daa_v67 :
    after { bytes := [0x27], cy := true, daa := .narrow } (fun t => (t.regs.a, bits t.flags))
      = some (0x60, [0, 0, 0, 1, 0]) := by decide
theorem test_jmp_1234_v70 : after { bytes := [0xC3, 0x34, 0x12] } (fun t => t.pc) = some 0x1234 := by decide
theorem test_jnz_0200_v72 : after { bytes := [0xC2, 0x00, 0x02] } (fun t => t.pc) = some 0x0200 := by decide
theorem test_jnz_0200_v73 : after { bytes := [0xC2, 0x00, 0x02], z := true } (fun t => t.pc) = some 0x0103 := by decide
theorem test_jm_0200_v76 : after { bytes := [0xFA, 0x00, 0x02] } (fun t => t.pc) = some 0x0103 := by decide
theorem test_call_0200_v77 :
    after { bytes := [0xCD, 0x00, 0x02] } (fun t => (t.sp, t.pc, t.mem.read 0x23FE, t.mem.read 0x23FF))
      = some (0x23FE, 0x0200, 0x03, 0x01) := by decide
theorem test_cz_0200_v78 :
    after { bytes := [0xCC, 0x00, 0x02], z := true } (fun t => (t.sp, t.pc, t.mem.read 0x23FE, t.mem.read 0x23FF, t.report.cycles))
      = some (0x23FE, 0x0200, 0x03, 0x01, 17) := by decide
theorem test_cz_0200_v79 :
    after { bytes := [0xCC, 0x00, 0x02] } (fun t => (t.pc, t.report.cycles)) = some (0x0103, 11) := by decide
theorem test_ret_v80 :
    after { bytes := [0xC9], sp := 0x23FE, mem := [(0x23FE, 0x03), (0x23FF, 0x01)] } (fun t => (t.sp, t.pc))
      = some (0x2400, 0x0103) := by decide
theorem test_rnc_v81 :
    after { bytes := [0xD0], sp := 0x23FE, mem := [(0x23FE, 0x03), (0x23FF, 0x01)] } (fun t => (t.sp, t.pc, t.report.cycles))
      = some (0x2400, 0x0103, 11) := by decide
theorem test_rnc_v82 :
    after { bytes := [0xD0], cy := true, sp := 0x23FE } (fun t => (t.pc, t.report.cycles)) = some (0x0101, 5) := by decide
theorem test_rst_1_v83 :
    after { bytes := [0xCF] } (fun t => (t.sp, t.pc, t.mem.read 0x23FE, t.mem.read 0x23FF))
      = some (0x23FE, 0x0008, 0x01, 0x01) := by decide
theorem test_pchl_v85 : after { bytes := [0xE9], h := 0x12, l := 0x34 } (fun t => t.pc) = some 0x1234 := by decide
theorem test_call_0005_v87 :
    after { bytes := [0xCD, 0x05, 0x00], c := 0x09, d := 0x01, e := 0x74, harness := true } (fun t => ending t.report.status)
      = some .success := by decide
theorem test_call_0005_v88 :
    after { bytes := [0xCD, 0x05, 0x00], c := 0x09, d := 0x01, e := 0x8B, sp := 0x23FE, mem := [(0x23FE, 0x09), (0x23FF, 0x02)], harness := true } (fun t => ending t.report.status)
      = some (.failure 0x0203) := by decide
theorem test_push_psw_v91 :
    after { bytes := [0xF5], a := 0xAA, s := true, z := true, ac := true, p := true, cy := true } (fun t => (t.sp, t.pc, t.mem.read 0x23FE, t.mem.read 0x23FF))
      = some (0x23FE, 0x0101, 0xD7, 0xAA) := by decide
theorem test_pop_psw_v94 :
    after { bytes := [0xF1], sp := 0x23FE, mem := [(0x23FE, 0xFF), (0x23FF, 0x77)] } (fun t => (t.regs.a, t.sp, bits t.flags))
      = some (0x77, 0x2400, [1, 1, 1, 1, 1]) := by decide
theorem test_pop_h_v95 :
    after { bytes := [0xE1], sp := 0xFFFF, mem := [(0xFFFF, 0x34), (0x0000, 0x12)] } (fun t => (t.regs.h, t.regs.l, t.sp, t.pc))
      = some (0x12, 0x34, 0x0001, 0x0101) := by decide
theorem test_xchg_v97 :
    after { bytes := [0xEB], d := 0x11, e := 0x22, h := 0x33, l := 0x44 } (fun t => (t.regs.d, t.regs.e, t.regs.h, t.regs.l, t.pc))
      = some (0x33, 0x44, 0x11, 0x22, 0x0101) := by decide
theorem test_xthl_v98 :
    after { bytes := [0xE3], sp := 0x23FE, h := 0x12, l := 0x34, mem := [(0x23FE, 0xCD), (0x23FF, 0xAB)] } (fun t => (t.regs.h, t.regs.l, t.pc, t.mem.read 0x23FE, t.mem.read 0x23FF))
      = some (0xAB, 0xCD, 0x0101, 0x34, 0x12) := by decide
theorem test_sphl_v99 :
    after { bytes := [0xF9], h := 0x20 } (fun t => (t.sp, t.pc)) = some (0x2000, 0x0101) := by decide
theorem test_ei_v100 : after { bytes := [0xFB] } (fun t => (t.pc, t.inte)) = some (0x0101, true) := by decide
theorem test_di_v101 :
    after { bytes := [0xF3], inte := true } (fun t => (t.pc, t.inte)) = some (0x0101, false) := by decide
theorem test_hlt_v102 : after { bytes := [0x76] } (fun t => (t.pc, t.halted)) = some (0x0101, true) := by decide
theorem test_hlt_already_halted_v103 :
    after { bytes := [0x76], halted := true } (fun t => t.report.cycles) = some 4 := by decide
theorem test_out_02_v104 :
    after { bytes := [0xD3, 0x02], a := 0xFB } (fun t => (t.pc, t.ports.shiftOffset)) = some (0x0102, 0x3) := by decide
theorem test_out_04_v105 :
    after { bytes := [0xD3, 0x04], a := 0xAB, shiftValue := 0xCD00 } (fun t => (t.pc, t.ports.shiftValue))
      = some (0x0102, 0xABCD) := by decide
theorem test_in_01_v110 : after { bytes := [0xDB, 0x01] } (fun t => (t.regs.a, t.pc)) = some (0x08, 0x0102) := by decide
theorem test_in_03_v112 :
    after { bytes := [0xDB, 0x03], shiftValue := 0xCDAB, shiftOffset := 0x3 } (fun t => (t.regs.a, t.pc))
      = some (0x6D, 0x0102) := by decide
theorem test_in_00_v114 : stopOf { bytes := [0xDB, 0x00], a := 0x77 } = some (.unsupportedInPort 0x00) := by decide
theorem test_undocumented_08_v116 : stopOf { bytes := [0x08] } = some (.illegalOpcode 0x08 0x0100) := by decide
theorem test_nop_at_fffe_v128 :
    stopOf { bytes := [0x00], pc := 0xFFFE } = some (.addressOutOfRange 0x10000 0xFFFE) := by decide
theorem test_nop_at_fffd_v130 : after { bytes := [0x00], pc := 0xFFFD } (fun t => t.pc) = some 0xFFFE := by decide

/-! ## Reset, memory, the schedules -/

/-- The defaults of R10 with RESET_REGS all zero and no image give the state after reset (R500). -/
theorem test_boot_gives_reset :
    nextOf (boot Config.default
      { startPc := 0, regs := State.reset.regs, flags := State.reset.flags, sp := 0, memInit := [], image := [],
        offset := 0, env := [] }) = some State.reset := by decide

/-- Storing what an unlisted address reads as removes the entry. -/
theorem test_memory_write_removes :
    Memory.write [(5, 0x01), (7, 0x02)] 5 0x00 = [(7, 0x02)] ∧ Memory.write [(7, 0x02)] 5 0x01 = [(5, 0x01), (7, 0x02)] := by
  decide

theorem test_memory_wf_refuses :
    Memory.wf [(7, 0x02), (5, 0x01)] = false ∧ Memory.wf [(5, 0x01), (5, 0x02)] = false ∧
    Memory.wf [(5, 0x00)] = false ∧ Memory.wf [(65536, 0x01)] = false ∧ Memory.wf [(65535, 0x01)] = true := by decide

/-- A request on line 1 at a boundary with INTE = 1, then one NOP at 0x0008 (R412, R413). -/
theorem test_request_before_the_step :
    after { bytes := [0x00], inte := true, halted := true, env := [{ host := [], request := some .line1 }] }
      (fun t => (t.pc, t.sp, t.inte, t.halted, t.mem.read 0x23FF))
      = some (0x0009, 0x23FE, false, false, 0x01) := by decide

/-- Program P6: at 54 cycles of a frame of 100 the scheduler raises line 1 (95_test_vectors.md). -/
theorem test_frame_half :
    after { bytes := [0xC3, 0x04, 0x00], pc := 0x0004, inte := true, schedule := .frame, mem := [(8, 0x3C)],
            frame := { cycles := 54, half := .first, returned := 0 } }
      (fun t => (t.regs.a, t.pc, t.frame.cycles, t.frame.half))
      = some (0x01, 0x0009, 59, .second) := by decide

/-- Coin and fire on port 1, tilt on port 2, and a release (60_exceptions.md R440). -/
theorem test_host_inputs :
    (hostActs [.input .coin true, .input .fire1 true, .input .tilt true, .input .coin false] State.reset.ports).in1
      = 0x18 ∧
    (hostActs [.input .tilt true] State.reset.ports).in2 = 0x04 := by decide

/-- E13: bit 5 of port 1 survives the setting of bit 6, and bit 6 the clearing of bit 5 (95_test_vectors.md). -/
theorem test_port_bits_are_isolated_e13 :
    (hostActs [.input .left1 true] State.reset.ports).in1 = 0x28 ∧
    (hostActs [.input .left1 true, .input .right1 true] State.reset.ports).in1 = 0x68 ∧
    (hostActs [.input .left1 true, .input .right1 true, .input .left1 false] State.reset.ports).in1 = 0x48 := by decide

/-! ## States and operands that meet the statements' hypotheses -/

/-- BootLoadsTheImageAndSetsTheCore: an image that ends at 0xFFFF fits, one byte more does not. -/
theorem witness_image_fits_and_does_not :
    (nextOf (boot Config.default
      { startPc := 0, regs := State.reset.regs, flags := State.reset.flags, sp := 0, memInit := [(3, 0x07)],
        image := [0xAA], offset := 65535, env := [{ host := [.pause true], request := none }] })).map
      (fun t => (t.mem.read 65535, t.mem.read 3, t.env.length)) = some (0xAA, 0x07, 1) ∧
    refusalOf (boot Config.default
      { startPc := 0, regs := State.reset.regs, flags := State.reset.flags, sp := 0, memInit := [], image := [0xAA, 0xBB],
        offset := 65535, env := [] }) = some (.imageDoesNotFit 65535 2) := by decide

/-- StepKeepsParametersAndTakesOneEvent: an event with actions and a request under `Free`, one without a request, and an
empty list. -/
theorem witness_events :
    (nextOf (boundary (Start.state
      { bytes := [], inte := true,
        env := [{ host := [.input .right2 true, .pause true], request := some .line1 },
                { host := [], request := none }] }))).map
      (fun t => (t.pc, t.ports.in2, t.ports.paused, t.env.length)) = some (0x0008, 0x40, true, 1) ∧
    (nextOf (boundary (Start.state
      { bytes := [], inte := true, env := [{ host := [.input .coin true], request := none }] }))).map
      (fun t => (t.pc, t.ports.in1, t.env.length)) = some (0x0100, 0x09, 0) ∧
    (nextOf (boundary (Start.state { bytes := [], inte := true }))).map (fun t => (t.pc, t.ports)) =
      some (0x0100, State.reset.ports) := by decide

/-- InstructionLengthFollowsTheOpcode, ExactlyTwelveByteValuesAreIllegal, IllegalRowsRaiseIllegalOpcode. -/
theorem witness_well_formed_and_not :
    Instr.nop.wellFormed = true ∧ Instr.illegalFD.wellFormed = false ∧
    (decodeBytes 0xFD 0 0).wellFormed = false ∧
    faultOf (exec .illegalFD State.reset) = some (.illegalOpcode 0xFD 0x0000) := by decide

/-- StepRunsTheDecodedInstruction: the premises at the last PC that can fetch, at 0xFFFF under `Wrap`, and with a
boundary that interrupts. -/
theorem witness_step_runs_decoded :
    (let s : State := Start.state { bytes := [0x00], pc := 0xFFFD }
     s.ended = false ∧ nextOf (boundary s) = some s ∧ s.cfg.schedule = .free ∧ s.env = [] ∧ s.ports.paused = false ∧
       s.halted = false ∧ s.readByte s.pc ∉ s.cfg.unimplemented ∧ s.pc.toNat ≤ 0xFFFD) ∧
    (let s : State := Start.state { bytes := [0x00], pc := 0xFFFF, data := .wrap }
     s.ended = false ∧ s.cfg.schedule = .free ∧ s.env = [] ∧ s.ports.paused = false ∧ s.halted = false ∧
       s.readByte s.pc ∉ s.cfg.unimplemented ∧ s.cfg.dataAddrPolicy = .wrap ∧
       (nextOf (step s)).map (fun t => t.pc) = some 0x0000) := by decide

theorem witness_step_runs_decoded_after_interrupt :
    (nextOf (boundary (Start.state
      { bytes := [0x00], inte := true, env := [{ host := [], request := some .line2 }] }))).map
      (fun t => (t.pc, t.ports.paused, t.halted, decide (t.readByte t.pc ∉ t.cfg.unimplemented)))
      = some (0x0010, false, false, true) := by decide

/-- StepMakesItsChecksInOrder, PausedStepChangesNothing: each check, the later ones failing too. -/
theorem witness_checks_in_order :
    nextOf (coreStep (Start.state { bytes := [0x08], paused := true, halted := true }))
      = some { Start.state { bytes := [0x08], paused := true, halted := true } with
          report := { status := .paused, cycles := 0 } } ∧
    (nextOf (coreStep (Start.state { bytes := [0x08], halted := true }))).map (fun t => (t.pc, t.report.cycles))
      = some (0x0100, 4) ∧
    faultOf (coreStep (Start.state { bytes := [0x08], pc := 0xFFFF })) = some (.illegalOpcode 0x08 0xFFFF) ∧
    faultOf (coreStep (Start.state { bytes := [0x00], pc := 0xFFFE })) = some (.addressOutOfRange 0x10000 0xFFFE) ∧
    faultOf (coreStep (Start.state { bytes := [0x00], pc := 0xFFFF })) = some (.addressOutOfRange 0x10000 0xFFFF) := by
  decide

/-- PausedStepChangesNothing: no event under `Free`, paused. -/
theorem witness_paused :
    (let s : State := Start.state { bytes := [0x04], paused := true }
     s.ended = false ∧ s.cfg.schedule = .free ∧ s.env = [] ∧ s.ports.paused = true) ∧
    after { bytes := [0x04], paused := true } (fun t => (t.pc, t.report)) = some (0x0100, { status := .paused, cycles := 0 }) := by
  decide

/-- HaltWithInterruptsDisabledNeverEnds: halted with INTE clear, and a request that is lost. -/
theorem witness_halted_for_ever :
    (let s : State := Start.state { bytes := [], halted := true, env := [{ host := [], request := some .line1 }] }
     s.ended = false ∧ s.halted = true ∧ s.inte = false) ∧
    after { bytes := [], halted := true, env := [{ host := [], request := some .line1 }] } (fun t => (t.halted, t.pc))
      = some (true, 0x0100) := by decide

/-- StepKeepsTheMachineInvariant, StepKeepsParametersAndTakesOneEvent: a state that meets the invariant and steps. -/
theorem witness_invariant_and_step :
    let s : State := Start.state { bytes := [0x70], h := 0x20, b := 0x07, env := [{ host := [.input .coin true], request := none }] }
    MachineInv s ∧ SafeStep s :=
  ⟨by constructor <;> decide, ⟨_, rfl⟩⟩

/-- FlagsAreWrittenAsTheTableSays, OnlyTheStoresWriteMemory, OnlyTheListedInstructionsWriteSp,
OnlyEiDiAndHltWriteInteAndHalted, NoInstructionChangesTheHostsState, NoResultDependsOnTheCycleTable: an instruction of
each kind answers next. -/
theorem witness_whole_machine_rules :
    (∃ t, exec .movCB State.reset = .next t) ∧ writesSZAcP Instr.movCB.opcode.toNat = false ∧
    writesCy Instr.movCB.opcode.toNat = false ∧ storesToMemory Instr.movCB.opcode.toNat = false ∧
    writesSp Instr.movCB.opcode.toNat = false ∧ Instr.movCB ≠ .ei ∧ Instr.movCB ≠ .di ∧ Instr.movCB ≠ .hlt ∧
    (∃ t, exec (.alu .ana .mem) State.reset = .next t) ∧ (∃ t, exec (.alu .xra (.imm 0x0F)) State.reset = .next t) ∧
    (∃ t, exec (.alu .ora (.reg .b)) State.reset = .next t) ∧ (∃ t, exec .stc State.reset = .next t) ∧
    (∃ t, exec (.dcr .a) State.reset = .next t) ∧ (∃ t, exec .dcrM State.reset = .next t) ∧
    (∃ t, interrupt .line1 State.reset = .next t) :=
  ⟨⟨_, rfl⟩, by decide, by decide, by decide, by decide, by decide, by decide, by decide, ⟨_, rfl⟩, ⟨_, rfl⟩, ⟨_, rfl⟩,
    ⟨_, rfl⟩, ⟨_, rfl⟩, ⟨_, rfl⟩, ⟨_, rfl⟩⟩

/-- NoInstructionChangesTheHostsState: OUT is the exception. -/
theorem witness_out_changes_ports :
    (nextOf (exec (.outPort 0x03) (Start.state { bytes := [], a := 0x12 }))).map (fun t => t.ports.out3) = some 0x12 := by
  decide

/-- SequencerAdvancesPcByTheLength: a conditional jump that is not taken meets the premises. -/
theorem witness_sequencer :
    (∃ t, exec (.jcc .z 0x0200) State.reset = .next t ∧ t.pc = 0x0003) ∧ ¬ CondTrue .z State.reset.flags ∧
    CondTrue .nz State.reset.flags :=
  ⟨⟨_, rfl, rfl⟩, by simp [CondTrue, State.reset], rfl⟩

/-- HlLoadAndStoreResults: the last address with a second byte, and 0xFFFF under `Wrap` and under `Fault`. -/
theorem witness_hl_addresses :
    dataAddr Config.default 0xFFFE 1 = .ok 0xFFFF ∧
    dataAddr { Config.default with dataAddrPolicy := .wrap } 0xFFFF 1 = .ok 0x0000 ∧
    dataAddr Config.default 0xFFFF 1 = .error 0x10000 ∧ Config.default.dataAddrPolicy = .fault := by decide

/-- DcrResults: an operand of 0x00 and one that is not. -/
theorem witness_dcr :
    (Start.state { bytes := [], b := 0x00 }).reg .b = 0x00 ∧ (Start.state { bytes := [], b := 0x10 }).reg .b ≠ 0x00 ∧
    (Start.state { bytes := [], h := 0x20, mem := [(0x2000, 0x01)] }).readByte 0x2000 ≠ 0x00 := by decide

/-- DaaMakesThePackedDecimalSum: 99 + 99 + 1 = 199. -/
theorem witness_packed_decimal :
    (let s : State := Start.state { bytes := [], a := 0x99, cy := true }
     s.regs.a = packedBcd 99 ∧ s.cfg.daaCarry = .wide ∧ s.flags.cy = true) ∧ packedBcd 0 = 0x00 ∧ packedBcd 45 = 0x45 := by
  decide

/-- JumpResults, ConditionalCallResults, ReturnResults: each condition holds in one state and fails in another. -/
theorem witness_conditions :
    ∀ cnd : Cond,
      (CondTrue cnd { s := false, z := false, ac := false, p := false, cy := false } ∨
        CondTrue cnd { s := true, z := true, ac := false, p := true, cy := true }) ∧
      (¬ CondTrue cnd { s := false, z := false, ac := false, p := false, cy := false } ∨
        ¬ CondTrue cnd { s := true, z := true, ac := false, p := true, cy := true }) := by
  intro cnd
  cases cnd <;> simp [CondTrue]

/-- CallAndRestartResults, ConditionalCallResults, PushResults, InterruptEntryResult: the two addresses under `Wrap` at SP
0, 1 and 0xFFFF, and under `Fault` at the lowest SP that can push. -/
theorem witness_push_addresses :
    stackAddr Config.default 0x0000 (-1) = .ok 0xFFFF ∧ stackAddr Config.default 0x0000 (-2) = .ok 0xFFFE ∧
    stackAddr Config.default 0x0001 (-1) = .ok 0x0000 ∧ stackAddr Config.default 0x0001 (-2) = .ok 0xFFFF ∧
    stackAddr Config.default 0xFFFF (-1) = .ok 0xFFFE ∧
    stackAddr { Config.default with stackAddrPolicy := .fault } 0x0002 (-2) = .ok 0x0000 ∧
    harnessStatus 0x0005 State.reset = none ∧ CondTrue .nz State.reset.flags :=
  ⟨by decide, by decide, by decide, by decide, by decide, by decide, by decide, rfl⟩

/-- ReturnResults, PopResults, ExchangeResults: the two addresses at SP 0xFFFF under `Wrap` and 0xFFFE under `Fault`. -/
theorem witness_pop_addresses :
    stackAddr Config.default 0xFFFF 0 = .ok 0xFFFF ∧ stackAddr Config.default 0xFFFF 1 = .ok 0x0000 ∧
    stackAddr { Config.default with stackAddrPolicy := .fault } 0xFFFE 0 = .ok 0xFFFE ∧
    stackAddr { Config.default with stackAddrPolicy := .fault } 0xFFFE 1 = .ok 0xFFFF := by decide

/-- CallThenReturnComesBack, PopAfterPushRestores, EnableAndDisableTakeEffectAtOnce: the state after reset. -/
theorem witness_default_stack_policy :
    State.reset.cfg.stackAddrPolicy = .wrap ∧ harnessStatus 0x0200 State.reset = none := by decide

/-- AddressPastTheEndFollowsThePolicy: both ends in range and out of it, under either policy. -/
theorem witness_address_rule :
    dataAddr Config.default 0x0000 0 = .ok 0x0000 ∧ dataAddr Config.default 0xFFFF 0 = .ok 0xFFFF ∧
    dataAddr Config.default 0x0000 (-1) = .error (-1) ∧ stackAddr Config.default 0x0000 (-1) = .ok 0xFFFF ∧
    stackAddr { Config.default with stackAddrPolicy := .fault } 0xFFFF 1 = .error 0x10000 := by decide

/-- StackAccessPastTheEndFaults: SP 0, 1 and 0xFFFF under `Fault`. -/
theorem witness_stack_faults :
    faultOf (exec .pushB (Start.state { bytes := [], sp := 0x0000, stack := .fault }))
      = some (.addressOutOfRange (-1) 0x0100) ∧
    faultOf (exec .rst1 (Start.state { bytes := [], sp := 0x0001, stack := .fault }))
      = some (.addressOutOfRange (-1) 0x0100) ∧
    faultOf (exec .ret (Start.state { bytes := [], sp := 0xFFFF, stack := .fault }))
      = some (.addressOutOfRange 0x10000 0x0100) ∧
    faultOf (interrupt .line1 (Start.state { bytes := [], sp := 0x0000, stack := .fault, inte := true }))
      = some (.addressOutOfRange (-1) 0x0100) := by decide

/-- InputResults, OutputResults: the ports next to the ones that answer. -/
theorem witness_ports :
    portIn 0x00 State.reset.ports = none ∧ portIn 0x04 State.reset.ports = none ∧ portIn 0xFF State.reset.ports = none ∧
    portOut 0x01 0xFF State.reset.ports = State.reset.ports ∧ portOut 0x06 0xFF State.reset.ports = State.reset.ports := by
  decide

/-- InterruptEntryResult: INTE clear, and INTE set at SP 0. -/
theorem witness_interrupt_entry :
    State.reset.inte = false ∧
    (nextOf (interrupt .line2 (Start.state { bytes := [], sp := 0x0000, inte := true }))).map
      (fun t => (t.pc, t.sp, t.mem.read 0xFFFF, t.inte)) = some (0x0010, 0xFFFE, 0x01, false) := by decide

/-- SelfTestInterceptEndsTheRun: the two intercepted calls, each way out of the convention, and the end of the run. -/
theorem witness_self_test :
    (harnessStatus 0x0005 (Start.state { bytes := [], c := 0x09, d := 0x01, e := 0x74, harness := true })).map ending
      = some .success ∧
    (harnessStatus 0x0005 (Start.state
      { bytes := [], c := 0x09, d := 0x01, e := 0x8B, harness := true, sp := 0xFFFF, mem := [(0xFFFF, 0x09), (0, 0x02)] })).map
      ending = some (.failure 0x0203) ∧
    (harnessStatus 0x0005 (Start.state { bytes := [], c := 0x09, d := 0x01, e := 0x8B, harness := true })).map ending
      = some (.failure (-6)) ∧
    harnessStatus 0x0004 (Start.state { bytes := [], c := 0x09, d := 0x01, e := 0x74, harness := true }) = none ∧
    harnessStatus 0x0005 (Start.state { bytes := [], c := 0x09, d := 0x01, e := 0x75, harness := true }) = none ∧
    refusalOf (step { State.reset with report := { status := .failure "" 0, cycles := 17 } }) = some .runEnded ∧
    refusalOf (step { State.reset with report := { status := .success "", cycles := 17 } }) = some .runEnded := by decide

/-- FrameSchedulerRaisesBothLines: each clause at the ends of its range, with a budget of 100 and a half of 50. -/
theorem witness_frame_clauses :
    (nextOf (boundary (Start.state
      { bytes := [], schedule := .frame, frame := { cycles := 49, half := .first, returned := 0 } }))).map
      (fun t => t.frame) = some { cycles := 49, half := .first, returned := 0 } ∧
    (nextOf (boundary (Start.state
      { bytes := [], schedule := .frame, inte := true, frame := { cycles := 50, half := .first, returned := 0 } }))).map
      (fun t => (t.frame, t.pc)) = some ({ cycles := 50, half := .second, returned := 0 }, 0x0008) ∧
    (nextOf (boundary (Start.state
      { bytes := [], schedule := .frame, frame := { cycles := 99, half := .second, returned := 0 } }))).map
      (fun t => t.frame) = some { cycles := 99, half := .second, returned := 0 } ∧
    (nextOf (boundary (Start.state
      { bytes := [], schedule := .frame, inte := true, frame := { cycles := 100, half := .second, returned := 0 } }))).map
      (fun t => (t.frame, t.pc)) = some ({ cycles := 0, half := .first, returned := 100 }, 0x0010) := by decide

/-- FrameSchedulerRaisesBothLines (the overshoot of R417): a count at CYCLES_PER_FRAME in the first half, with INTE set,
where line 1 is accepted and line 2 lost, and with INTE clear, where both are lost. -/
theorem witness_frame_overshoot :
    (nextOf (boundary (Start.state
      { bytes := [], schedule := .frame, inte := true, frame := { cycles := 100, half := .first, returned := 0 } }))).map
      (fun t => (t.frame, t.pc, t.sp, t.inte)) = some ({ cycles := 0, half := .first, returned := 100 }, 0x0008, 0x23FE, false) ∧
    (nextOf (boundary (Start.state
      { bytes := [], schedule := .frame, frame := { cycles := 100, half := .first, returned := 0 } }))).map
      (fun t => (t.frame, t.pc, t.sp)) = some ({ cycles := 0, half := .first, returned := 100 }, 0x0100, 0x2400) := by
  decide

/-- FrameSchedulerRaisesBothLines (the count), FrameReturnsAtLeastItsBudget, FreeAdmitsEveryRunOfFrame: a step under
`Frame` that ends a frame. -/
theorem witness_frame_step :
    after { bytes := [0x00], schedule := .frame, frame := { cycles := 104, half := .second, returned := 103 } }
      (fun t => (t.frame.returned, t.frame.cycles, t.pc)) = some (104, 4, 0x0101) := by decide

/-- DefaultCyclesAreTheTables: the default configuration lists no entry. -/
theorem witness_default_cycles : Config.default.cycleEntries = [] ∧ cycleTable Config.default 0xC4 true = 17 := by decide

end Sys2Proof.Tests
end

section
/-! PROOFS. Encoding: the number of bytes of an instruction (30_encoding.md R134). -/

namespace Sys2Proof.Machine

/-- 30_encoding.md R134: the opcode byte alone tells how many bytes an instruction has, the illegal rows included. -/
@[simp] theorem encode_length (i : Instr) : (encode i).length = lengthOf i.opcode := by
  cases i <;> rfl

/-- Settles O6: the encoder agrees with `lengthOf`, whose list of three-byte opcodes is R134's in another order. -/
theorem instructionLengthFollowsTheOpcode : Obligations.InstructionLengthFollowsTheOpcode := by
  refine ⟨rfl, rfl, fun i _ => ?_⟩
  rw [encode_length, lengthOf]
  refine if_congr Iff.rfl rfl (if_congr (List.Perm.mem_iff ?samePermutation) rfl rfl)
  case samePermutation => decide

end Sys2Proof.Machine
end

section
/-! PROOFS. The end of an instruction that does not set PC (30_encoding.md R122, R123), and the frames of the writes an
instruction makes before it: a register, a register pair, a byte of memory. -/

namespace Sys2Proof.Machine

/-! ## The end of an instruction -/

/-- The state in which the sequencer leaves u when i, which has not set PC, ends there (R122, R123). -/
def State.past (i : Instr) (u : State) : State :=
  { u with pc := u.pc + BitVec.ofNat 16 (encode i).length, report := ordinaryReport u.cfg i.opcode false }

/-- `State.past` is what the model's `advance` answers for the opcode and the length of i. -/
theorem advance_eq_next_past (i : Instr) (u : State) :
    advance i.opcode (BitVec.ofNat 16 (encode i).length) u = .next (u.past i) := rfl

@[simp] theorem State.past_flags (i : Instr) (u : State) : (u.past i).flags = u.flags := rfl
@[simp] theorem State.past_sp (i : Instr) (u : State) : (u.past i).sp = u.sp := rfl
@[simp] theorem State.past_reg (i : Instr) (u : State) (r : Reg) : (u.past i).reg r = u.reg r := rfl
@[simp] theorem State.past_pairVal (i : Instr) (u : State) (p : Pair) : (u.past i).pairVal p = u.pairVal p := by
  cases p <;> rfl
@[simp] theorem State.past_readByte (i : Instr) (u : State) (a : Word) : (u.past i).readByte a = u.readByte a := rfl

/-- The end of an instruction adds nothing to what has changed. -/
theorem KeepsAllBut.past {ds : List Reg} {as : List Word} {s u : State} (h : KeepsAllBut ds as s u) (i : Instr) :
    KeepsAllBut ds as s (u.past i) where
  regs := h.regs
  bytes := h.bytes
  inte := h.inte
  halted := h.halted
  ports := h.ports
  frame := h.frame
  env := h.env
  draws := h.draws
  cfg := h.cfg

/-- PC goes on and the report is the ordinary one, if PC and the parameters were those of s. -/
theorem advances_past {s u : State} (hpc : u.pc = s.pc) (hcfg : u.cfg = s.cfg) (i : Instr) :
    Advances i s (u.past i) := by
  simp [Advances, Reports, State.past, ordinaryReport, hpc, hcfg]

/-! ## Frames of the writes -/

theorem keepsAllBut_refl (s : State) : KeepsAllBut [] [] s s := by
  constructor <;> intros <;> rfl

@[simp] theorem State.setReg_reg_self (s : State) (r : Reg) (v : Byte) : (s.setReg r v).reg r = v :=
  Regs.get_set_self s.regs r v

theorem keepsAllBut_setReg (s : State) (r : Reg) (v : Byte) : KeepsAllBut [r] [] s (s.setReg r v) where
  regs _ hq := Regs.get_set_other s.regs v (List.ne_of_not_mem_cons hq)
  bytes _ _ := rfl
  inte := rfl
  halted := rfl
  ports := rfl
  frame := rfl
  env := rfl
  draws := rfl
  cfg := rfl

@[simp] theorem State.readByte_writeByte_self (s : State) (a : Word) (v : Byte) : (s.writeByte a v).readByte a = v := by
  simp [State.readByte_writeByte]

theorem keepsAllBut_writeByte (s : State) (a : Word) (v : Byte) : KeepsAllBut [] [a] s (s.writeByte a v) where
  regs _ _ := rfl
  bytes b hb := by simp [State.readByte_writeByte, List.ne_of_not_mem_cons hb]
  inte := rfl
  halted := rfl
  ports := rfl
  frame := rfl
  env := rfl
  draws := rfl
  cfg := rfl

/-- A write of a pair is a write of its two registers, the high byte to the first (10_state.md R31). -/
theorem Regs.setBc_eq_set (g : Regs) (v : Word) : g.setBc v = (g.set .b (hi8 v)).set .c (lo8 v) := rfl
theorem Regs.setDe_eq_set (g : Regs) (v : Word) : g.setDe v = (g.set .d (hi8 v)).set .e (lo8 v) := rfl
theorem Regs.setHl_eq_set (g : Regs) (v : Word) : g.setHl v = (g.set .h (hi8 v)).set .l (lo8 v) := rfl

theorem State.setPair_reg_other (s : State) {p : Pair} {r : Reg} (v : Word) (hr : r ∉ pairRegs p) :
    (s.setPair p v).reg r = s.reg r := by
  cases p with
  | bc => simp_all [pairRegs, State.reg, Regs.setBc_eq_set, Regs.get_set]
  | de => simp_all [pairRegs, State.reg, Regs.setDe_eq_set, Regs.get_set]
  | hl => simp_all [pairRegs, State.reg, Regs.setHl_eq_set, Regs.get_set]
  | sp => rfl

theorem State.setPair_sp_other (s : State) {p : Pair} (v : Word) (hp : p ≠ .sp) : (s.setPair p v).sp = s.sp := by
  cases p with
  | sp => exact absurd rfl hp
  | _ => rfl

theorem keepsAllBut_setPair (s : State) (p : Pair) (v : Word) : KeepsAllBut (pairRegs p) [] s (s.setPair p v) where
  regs _ hr := State.setPair_reg_other s v hr
  bytes _ _ := by simp [State.readByte]
  inte := by simp
  halted := by simp
  ports := by simp
  frame := by simp
  env := by simp
  draws := by simp
  cfg := by simp

/-! ## Instructions with one write -/

/-- The result of an instruction whose one write is a register: MOV, MVI and the loads of A. -/
theorem exec_result_of_setReg {i : Instr} {s : State} {dst : Reg} {v : Byte}
    (h : exec i s = .next ((s.setReg dst v).past i)) :
    ∃ t, exec i s = .next t ∧ t.reg dst = v ∧ KeepsAllBut [dst] [] s t ∧ t.flags = s.flags ∧ t.sp = s.sp ∧
      Advances i s t :=
  ⟨_, h, by simp, (keepsAllBut_setReg s dst v).past i, rfl, rfl, advances_past rfl rfl i⟩

/-- The result of an instruction whose one write is a byte of memory: the stores of M and of A. -/
theorem exec_result_of_writeByte {i : Instr} {s : State} {a : Word} {v : Byte}
    (h : exec i s = .next ((s.writeByte a v).past i)) :
    ∃ t, exec i s = .next t ∧ t.readByte a = v ∧ KeepsAllBut [] [a] s t ∧ t.flags = s.flags ∧ t.sp = s.sp ∧
      Advances i s t :=
  ⟨_, h, by simp, (keepsAllBut_writeByte s a v).past i, rfl, rfl, advances_past rfl rfl i⟩

end Sys2Proof.Machine
end

section
/-! PROOFS. NOP and data transfer (40_nop_data_transfer.md R200 to R208, R211, R212): the one write of each instruction,
and the statements about it. -/

namespace Sys2Proof.Machine

/-! ## What each form executes -/

theorem exec_nop (s : State) : exec .nop s = .next (s.past .nop) := rfl

theorem exec_mov (dst r : Reg) (s : State) :
    exec (.mov dst r) s = .next ((s.setReg dst (s.reg r)).past (.mov dst r)) := by
  cases dst <;> cases r <;> rfl

theorem exec_movFromM (dst : Reg) (s : State) :
    exec (.movFromM dst) s = .next ((s.setReg dst (s.readByte s.regs.hl)).past (.movFromM dst)) := by
  cases dst <;> rfl

theorem exec_movToM (r : Reg) (s : State) :
    exec (.movToM r) s = .next ((s.writeByte s.regs.hl (s.reg r)).past (.movToM r)) := by
  cases r <;> rfl

theorem exec_mvi (dst : Reg) (v : Byte) (s : State) :
    exec (.mvi dst v) s = .next ((s.setReg dst v).past (.mvi dst v)) := by
  cases dst <;> rfl

theorem exec_mviM (v : Byte) (s : State) :
    exec (.mviM v) s = .next ((s.writeByte s.regs.hl v).past (.mviM v)) := rfl

theorem exec_lxi (p : Pair) (v : Word) (s : State) :
    exec (.lxi p v) s = .next ((s.setPair p v).past (.lxi p v)) := by
  cases p <;> rfl

theorem exec_lda (w : Word) (s : State) :
    exec (.lda w) s = .next ((s.setReg .a (s.readByte w)).past (.lda w)) := rfl

theorem exec_ldax (p : AddrPair) (s : State) :
    exec (.ldax p) s = .next ((s.setReg .a (s.readByte (s.regs.addrPair p))).past (.ldax p)) := by
  cases p <;> rfl

theorem exec_sta (w : Word) (s : State) :
    exec (.sta w) s = .next ((s.writeByte w s.regs.a).past (.sta w)) := rfl

theorem exec_stax (p : AddrPair) (s : State) :
    exec (.stax p) s = .next ((s.writeByte (s.regs.addrPair p) s.regs.a).past (.stax p)) := by
  cases p <;> rfl

/-! ## The statements -/

/-- Settles O23: NOP only ends, MOV r,r' and MOV r,M write one register, MOV M,r writes the byte at HL. -/
theorem nopAndMovResults : Obligations.NopAndMovResults :=
  ⟨fun s => ⟨_, exec_nop s, (keepsAllBut_refl s).past .nop, rfl, rfl, advances_past rfl rfl .nop⟩,
    fun dst r s => exec_result_of_setReg (exec_mov dst r s),
    fun dst s => exec_result_of_setReg (exec_movFromM dst s),
    fun r s => exec_result_of_writeByte (exec_movToM r s)⟩

/-- The result of LXI: its pair holds the word, and SP moves only when SP is the pair. -/
theorem exec_lxi_result (p : Pair) (v : Word) (s : State) :
    ∃ t, exec (.lxi p v) s = .next t ∧ t.pairVal p = v ∧ KeepsAllBut (pairRegs p) [] s t ∧ t.flags = s.flags ∧
      (p ≠ .sp → t.sp = s.sp) ∧ Advances (.lxi p v) s t :=
  ⟨_, exec_lxi p v s, by simp, (keepsAllBut_setPair s p v).past _, by simp,
    fun hp => State.setPair_sp_other s v hp, advances_past (by simp) (by simp) _⟩

/-- Settles O24: MVI writes one register or the byte at HL, LXI one pair. -/
theorem immediateLoadResults : Obligations.ImmediateLoadResults :=
  ⟨fun dst v s => exec_result_of_setReg (exec_mvi dst v s),
    fun v s => exec_result_of_writeByte (exec_mviM v s),
    exec_lxi_result⟩

/-- Settles O25: LDA and LDAX write A alone, STA and STAX the byte at their address alone. -/
theorem accumulatorLoadAndStoreResults : Obligations.AccumulatorLoadAndStoreResults :=
  ⟨fun w s => exec_result_of_setReg (exec_lda w s),
    fun p s => exec_result_of_setReg (exec_ldax p s),
    fun w s => exec_result_of_writeByte (exec_sta w s),
    fun p s => exec_result_of_writeByte (exec_stax p s)⟩

end Sys2Proof.Machine
end

section
/-! PROOFS. INX and DCX (41_register_pair_arith.md R230, R231): instructions whose one write is a register pair. -/

namespace Sys2Proof.Machine

/-! ## The 16-bit increment and decrement as numbers -/

@[simp] theorem inc16_toNat (v : Word) : (inc16 v).toNat = (v.toNat + 1) % 65536 := by
  simp [inc16, BitVec.toNat_add]

@[simp] theorem dec16_toNat (v : Word) : (dec16 v).toNat = (v.toNat + 65535) % 65536 := by
  simp [dec16, BitVec.toNat_sub, Nat.add_comm]

/-! ## One write of a pair -/

/-- The result of an instruction whose one write is a register pair: SP moves only when SP is the pair. -/
theorem exec_result_of_setPair {i : Instr} {s : State} {p : Pair} {v : Word}
    (h : exec i s = .next ((s.setPair p v).past i)) :
    ∃ t, exec i s = .next t ∧ t.pairVal p = v ∧ KeepsAllBut (pairRegs p) [] s t ∧ t.flags = s.flags ∧
      (p ≠ .sp → t.sp = s.sp) ∧ Advances i s t :=
  ⟨_, h, by simp, (keepsAllBut_setPair s p v).past i, by simp,
    State.setPair_sp_other s v, advances_past (by simp) (by simp) i⟩

theorem exec_inx (p : Pair) (s : State) :
    exec (.inx p) s = .next ((s.setPair p (inc16 (s.pairVal p))).past (.inx p)) := by
  cases p <;> rfl

theorem exec_dcx (p : Pair) (s : State) :
    exec (.dcx p) s = .next ((s.setPair p (dec16 (s.pairVal p))).past (.dcx p)) := by
  cases p <;> rfl

/-- Settles O27: INX and DCX write their pair alone, and `inc16` and `dec16` are the sums modulo 65536. -/
theorem inxAndDcxResults : Obligations.InxAndDcxResults := by
  intro p s
  obtain ⟨t, ht, hinc, htKept⟩ := exec_result_of_setPair (exec_inx p s)
  obtain ⟨u, hu, hdec, huKept⟩ := exec_result_of_setPair (exec_dcx p s)
  exact ⟨⟨t, ht, by rw [hinc, inc16_toNat], htKept⟩, ⟨u, hu, by rw [hdec, dec16_toNat], huKept⟩⟩

end Sys2Proof.Machine
end

section
/-! PROOFS. The rotates and the carry and accumulator group (45_rotate_carry_daa.md R300 to R306): each rotated byte as
a number, the writes of each instruction, and the statements about them. -/

namespace Sys2Proof.Machine

/-! ## The rotates as numbers -/

/-- The bit that leaves on the left is the byte's top bit. -/
theorem getLsbD_seven_eq_decide (a : Byte) : a.getLsbD 7 = decide (128 ≤ a.toNat) :=
  (BitVec.msb_eq_getLsbD_last a).symm.trans (BitVec.msb_eq_decide a)

/-- The bit that leaves on the right tells whether the byte is odd. -/
theorem getLsbD_zero_eq_decide (a : Byte) : a.getLsbD 0 = decide (a.toNat % 2 = 1) := by
  rw [← BitVec.testBit_toNat, Nat.testBit_zero]

theorem toNat_getLsbD_seven (a : Byte) : (a.getLsbD 7).toNat = a.toNat / 128 := by
  have ha := a.isLt
  rw [← BitVec.testBit_toNat, Nat.toNat_testBit]
  omega

theorem toNat_getLsbD_zero (a : Byte) : (a.getLsbD 0).toNat = a.toNat % 2 := by
  rw [← BitVec.testBit_toNat, Nat.toNat_testBit, pow_zero, Nat.div_one]

/-- A bit that comes in on the right fills the place the shift has cleared, so it adds. -/
theorem shiftLeft_or_bit_toNat (a : Byte) (c : Bool) :
    ((a <<< 1) ||| BitVec.ofNat 8 c.toNat).toNat = (a.toNat * 2 + c.toNat) % 256 := by
  have hc : c.toNat < 2 ^ 1 := c.toNat_lt
  calc ((a <<< 1) ||| BitVec.ofNat 8 c.toNat).toNat
      = (a.toNat <<< 1 ||| c.toNat) % 256 := by simp [Nat.or_mod_two_pow (n := 8)]
    _ = (a.toNat * 2 + c.toNat) % 256 := by
      rw [← Nat.shiftLeft_add_eq_or_of_lt hc, Nat.shiftLeft_eq, pow_one]

/-- A bit that comes in on the left stands above the seven bits that stay, so it adds. -/
theorem shiftRight_or_bit_toNat (a : Byte) (c : Bool) :
    ((a >>> 1) ||| BitVec.ofNat 8 (c.toNat * 128)).toNat = a.toNat / 2 + c.toNat * 128 := by
  have ha := a.isLt
  have hc := c.toNat_lt
  have hlow : a.toNat / 2 < 2 ^ 7 := by omega
  have hmod : c.toNat * 128 % 256 = c.toNat * 128 := Nat.mod_eq_of_lt (by omega)
  calc ((a >>> 1) ||| BitVec.ofNat 8 (c.toNat * 128)).toNat
      = 2 ^ 7 * c.toNat ||| a.toNat / 2 := by
        simp [hmod, Nat.shiftRight_eq_div_pow, Nat.or_comm, Nat.mul_comm]
    _ = a.toNat / 2 + c.toNat * 128 := by
      rw [← Nat.two_pow_add_eq_or_of_lt hlow]; omega

theorem rotateLeft_toNat (a : Byte) : (rotateLeft a).1.toNat = (a.toNat * 2 + a.toNat / 128) % 256 := by
  rw [rotateLeft, shiftLeft_or_bit_toNat, toNat_getLsbD_seven]

theorem rotateRight_toNat (a : Byte) : (rotateRight a).1.toNat = a.toNat / 2 + a.toNat % 2 * 128 := by
  rw [rotateRight, shiftRight_or_bit_toNat, toNat_getLsbD_zero]

/-! ## The writes of A and of CY -/

/-- A write of CY changes nothing that a frame speaks of. -/
theorem KeepsAllBut.setCarry {ds : List Reg} {as : List Word} {s u : State} (h : KeepsAllBut ds as s u) (c : Bool) :
    KeepsAllBut ds as s (u.setCarry c) where
  regs := h.regs
  bytes := h.bytes
  inte := h.inte
  halted := h.halted
  ports := h.ports
  frame := h.frame
  env := h.env
  draws := h.draws
  cfg := h.cfg

/-- The result of an instruction whose one write is CY: STC and CMC. -/
theorem exec_result_of_setCarry {i : Instr} {s : State} {c : Bool} (h : exec i s = .next ((s.setCarry c).past i)) :
    ∃ t, exec i s = .next t ∧ t.flags = { s.flags with cy := c } ∧ KeepsAllBut [] [] s t ∧ t.sp = s.sp ∧
      Advances i s t :=
  ⟨_, h, rfl, ((keepsAllBut_refl s).setCarry c).past i, rfl, advances_past rfl rfl i⟩

/-- The result of a rotate that writes the byte and the carry of r: A holds r's number, CY its carry. -/
theorem exec_result_of_rotate {i : Instr} {s : State} {r : Byte × Bool} {n : Nat} {c : Bool}
    (h : exec i s = .next (((s.setReg .a r.1).setCarry r.2).past i)) (hn : r.1.toNat = n) (hc : r.2 = c) :
    ∃ t, exec i s = .next t ∧ t.regs.a.toNat = n ∧ t.flags = { s.flags with cy := c } ∧ KeepsAllBut [.a] [] s t ∧
      t.sp = s.sp ∧ Advances i s t :=
  ⟨_, h, hn, hc ▸ rfl, ((keepsAllBut_setReg s .a r.1).setCarry r.2).past i, rfl, advances_past rfl rfl i⟩

/-! ## What each instruction executes -/

theorem exec_rlc (s : State) :
    exec .rlc s = .next (((s.setReg .a (rotateLeft s.regs.a).1).setCarry (rotateLeft s.regs.a).2).past .rlc) := rfl

theorem exec_rrc (s : State) :
    exec .rrc s = .next (((s.setReg .a (rotateRight s.regs.a).1).setCarry (rotateRight s.regs.a).2).past .rrc) := rfl

theorem exec_ral (s : State) :
    exec .ral s = .next (((s.setReg .a (rotateLeftThroughCarry s.regs.a s.flags.cy).1).setCarry
      (rotateLeftThroughCarry s.regs.a s.flags.cy).2).past .ral) := rfl

theorem exec_rar (s : State) :
    exec .rar s = .next (((s.setReg .a (rotateRightThroughCarry s.regs.a s.flags.cy).1).setCarry
      (rotateRightThroughCarry s.regs.a s.flags.cy).2).past .rar) := rfl

theorem exec_cma (s : State) : exec .cma s = .next ((s.setReg .a (~~~s.regs.a)).past .cma) := rfl

theorem exec_cmc (s : State) : exec .cmc s = .next ((s.setCarry (!s.flags.cy)).past .cmc) := rfl

theorem exec_stc (s : State) : exec .stc s = .next ((s.setCarry true).past .stc) := rfl

/-! ## The statements -/

/-- Settles O35: the left rotates double A and add the bit that comes in, the right rotates halve it and add the bit at
128; the bit that leaves is CY, and the end of the instruction keeps the rest. -/
theorem rotateResults : Obligations.RotateResults := fun s =>
  ⟨exec_result_of_rotate (exec_rlc s) (rotateLeft_toNat s.regs.a) (getLsbD_seven_eq_decide s.regs.a),
    exec_result_of_rotate (exec_rrc s) (rotateRight_toNat s.regs.a) (getLsbD_zero_eq_decide s.regs.a),
    exec_result_of_rotate (exec_ral s) (shiftLeft_or_bit_toNat s.regs.a s.flags.cy)
      (getLsbD_seven_eq_decide s.regs.a),
    exec_result_of_rotate (exec_rar s) (shiftRight_or_bit_toNat s.regs.a s.flags.cy)
      (getLsbD_zero_eq_decide s.regs.a)⟩

/-- R304: CMA writes A alone, and the complement of a byte is its difference from 255. -/
theorem exec_cma_result (s : State) :
    ∃ t, exec .cma s = .next t ∧ t.regs.a.toNat = 255 - s.regs.a.toNat ∧ t.flags = s.flags ∧
      KeepsAllBut [.a] [] s t ∧ t.sp = s.sp ∧ Advances .cma s t := by
  obtain ⟨t, ht, ha, hkeeps, hflags, hsp, hadv⟩ := exec_result_of_setReg (exec_cma s)
  have hval : t.regs.a.toNat = 255 - s.regs.a.toNat := (congrArg BitVec.toNat ha).trans BitVec.toNat_not
  exact ⟨t, ht, hval, hflags, hkeeps, hsp, hadv⟩

/-- Settles O36: the one write of CMA is A, the one write of CMC and of STC is CY. -/
theorem complementAndCarryResults : Obligations.ComplementAndCarryResults := fun s =>
  ⟨exec_cma_result s, exec_result_of_setCarry (exec_cmc s), exec_result_of_setCarry (exec_stc s)⟩

end Sys2Proof.Machine
end

section
/-! PROOFS. JMP and Jcc (46_branch.md R320, R321): the end of an instruction that sets PC, the condition a jump tests,
and the statement about them. -/

namespace Sys2Proof.Machine

/-! ## The end of an instruction that sets PC -/

/-- The state in which i leaves u when it has set PC to w, with the step's `taken` mark (R121, R122). -/
def State.jumped (i : Instr) (taken : Bool) (w : Word) (u : State) : State :=
  { u with pc := w, report := ordinaryReport u.cfg i.opcode taken }

/-- `State.jumped` is what the model's `jumpTo` answers for the opcode of i. -/
theorem jumpTo_eq_next_jumped (i : Instr) (taken : Bool) (w : Word) (u : State) :
    jumpTo i.opcode taken w u = .next (u.jumped i taken w) := rfl

/-- A jump adds nothing to what has changed: PC and the report are said apart. -/
theorem KeepsAllBut.jumped {ds : List Reg} {as : List Word} {s u : State} (h : KeepsAllBut ds as s u) (i : Instr)
    (taken : Bool) (w : Word) : KeepsAllBut ds as s (u.jumped i taken w) :=
  { h with }

/-- The report of a jump is the ordinary one, if the parameters were those of s. -/
theorem reports_jumped {s u : State} (hcfg : u.cfg = s.cfg) (i : Instr) (taken : Bool) (w : Word) :
    Reports i taken s (u.jumped i taken w) := by
  simp [Reports, State.jumped, ordinaryReport, hcfg]

/-! ## The conditions -/

/-- R66: the model's test of a condition is the flag with the value the condition wants. -/
theorem condHolds_eq_true_iff (cnd : Cond) (f : Flags) : condHolds cnd f = true ↔ CondTrue cnd f := by
  cases cnd <;> simp [condHolds, CondTrue]

theorem jumpIf_of_condTrue {cnd : Cond} {s : State} (h : CondTrue cnd s.flags) (op : Byte) (w : Word) :
    jumpIf op cnd w s = jumpTo op true w s :=
  if_pos ((condHolds_eq_true_iff cnd s.flags).mpr h)

theorem jumpIf_of_not_condTrue {cnd : Cond} {s : State} (h : ¬ CondTrue cnd s.flags) (op : Byte) (w : Word) :
    jumpIf op cnd w s = advance op 3 s :=
  if_neg (mt (condHolds_eq_true_iff cnd s.flags).mp h)

/-! ## What each instruction executes -/

theorem exec_jmp (w : Word) (s : State) : exec (.jmp w) s = .next (s.jumped (.jmp w) false w) := rfl

theorem exec_jcc (cnd : Cond) (w : Word) (s : State) :
    exec (.jcc cnd w) s = jumpIf (Instr.jcc cnd w).opcode cnd w s := by
  cases cnd <;> rfl

theorem encode_jcc_length (cnd : Cond) (w : Word) : (encode (.jcc cnd w)).length = 3 := by
  cases cnd <;> rfl

theorem exec_jcc_of_condTrue {cnd : Cond} {s : State} (h : CondTrue cnd s.flags) (w : Word) :
    exec (.jcc cnd w) s = .next (s.jumped (.jcc cnd w) true w) := by
  rw [exec_jcc, jumpIf_of_condTrue h, jumpTo_eq_next_jumped]

theorem exec_jcc_of_not_condTrue {cnd : Cond} {s : State} (h : ¬ CondTrue cnd s.flags) (w : Word) :
    exec (.jcc cnd w) s = .next (s.past (.jcc cnd w)) := by
  rw [exec_jcc, jumpIf_of_not_condTrue h, ← advance_eq_next_past, encode_jcc_length]
  rfl

/-! ## The statement -/

/-- The result of Jcc: a jump when its condition holds, the end of an instruction that changes nothing when it fails. -/
theorem exec_jcc_result (cnd : Cond) (w : Word) (s : State) :
    ∃ t, exec (.jcc cnd w) s = .next t ∧ KeepsAllBut [] [] s t ∧ t.flags = s.flags ∧ t.sp = s.sp ∧
      (CondTrue cnd s.flags → t.pc = w ∧ Reports (.jcc cnd w) true s t) ∧
      (¬ CondTrue cnd s.flags → Advances (.jcc cnd w) s t) := by
  by_cases hc : CondTrue cnd s.flags
  · exact ⟨_, exec_jcc_of_condTrue hc w, (keepsAllBut_refl s).jumped _ true w, rfl, rfl,
      fun _ => ⟨rfl, reports_jumped rfl _ true w⟩, fun hn => absurd hc hn⟩
  · exact ⟨_, exec_jcc_of_not_condTrue hc w, (keepsAllBut_refl s).past _, rfl, rfl,
      fun h => absurd h hc, fun _ => advances_past rfl rfl _⟩

/-- Settles O39: JMP is a jump that is not marked taken, Jcc a jump or the plain end of an instruction. -/
theorem jumpResults : Obligations.JumpResults :=
  ⟨fun w s => ⟨_, exec_jmp w s, rfl, (keepsAllBut_refl s).jumped _ false w, rfl, rfl, reports_jumped rfl _ false w⟩,
    exec_jcc_result⟩

end Sys2Proof.Machine
end

section
/-! PROOFS. IN and OUT (48_io_interrupt_control.md R370, R371; 60_exceptions.md R431 to R439): what each port answers and
takes, the one write of each instruction, and the statements about them. -/

namespace Sys2Proof.Machine

/-! ## The ports that are read -/

theorem portIn_one (io : Ports) : portIn 1 io = some (io.in1 ||| 0x08) := rfl

theorem portIn_two (io : Ports) : portIn 2 io = some io.in2 := rfl

theorem portIn_three (io : Ports) : portIn 3 io = some (byteAt io.shiftValue (8 - io.shiftOffset.toNat)) := rfl

theorem portIn_other {p : Byte} (io : Ports) (h1 : p ≠ 1) (h2 : p ≠ 2) (h3 : p ≠ 3) : portIn p io = none := by
  rw [portIn, if_neg h1, if_neg h2, if_neg h3]

/-- R436: whatever `in1` holds, bit 3 of the byte port 1 answers is set. -/
theorem getLsbD_or_eight_three (v : Byte) : (v ||| 0x08).getLsbD 3 = true := by
  rw [BitVec.getLsbD_or]
  exact Bool.or_true _

/-- The byte of a word at bit n holds the eight bits of the word from bit n up. -/
theorem getLsbD_byteAt (v : BitVec 16) (n : Nat) {j : Nat} (hj : j < 8) :
    (byteAt v n).getLsbD j = v.getLsbD (n + j) := by
  rw [byteAt, BitVec.getLsbD_ofNat, decide_eq_true hj, Bool.true_and, Nat.testBit_shiftRight, BitVec.testBit_toNat]

/-! ## The ports that are written -/

theorem portOut_two (v : Byte) (io : Ports) : portOut 2 v io = { io with shiftOffset := v.extractLsb' 0 3 } := rfl

theorem portOut_three (v : Byte) (io : Ports) : portOut 3 v io = { io with out3 := v } := rfl

theorem portOut_four (v : Byte) (io : Ports) :
    portOut 4 v io = { io with shiftValue := pair v (hi8 io.shiftValue) } := rfl

theorem portOut_five (v : Byte) (io : Ports) : portOut 5 v io = { io with out5 := v } := rfl

theorem portOut_other {p : Byte} (v : Byte) (io : Ports) (h2 : p ≠ 2) (h3 : p ≠ 3) (h4 : p ≠ 4) (h5 : p ≠ 5) :
    portOut p v io = io := by
  rw [portOut, if_neg h2, if_neg h3, if_neg h4, if_neg h5]

/-- R431: the offset is the low three bits, the remainder by 8. -/
theorem extractLsb'_zero_three_toNat (v : Byte) : (v.extractLsb' 0 3).toNat = v.toNat % 8 := by
  rw [BitVec.extractLsb'_toNat, Nat.shiftRight_zero]

/-- R433: the byte goes above the old high byte, which goes down. -/
theorem pair_hi8_toNat (v : Byte) (w : Word) : (pair v (hi8 w)).toNat = v.toNat * 256 + w.toNat / 256 := by
  rw [pair_toNat, hi8_toNat]

/-! ## What each instruction executes -/

theorem exec_inPort_of_some {p v : Byte} {s : State} (h : portIn p s.ports = some v) :
    exec (.inPort p) s = .next ((s.setReg .a v).past (.inPort p)) := by
  change inputStep 0xDB p s = _
  rw [inputStep, h]
  rfl

theorem exec_inPort_of_none {p : Byte} {s : State} (h : portIn p s.ports = none) :
    exec (.inPort p) s = .fault (.unsupportedInPort p) := by
  change inputStep 0xDB p s = _
  rw [inputStep, h]

theorem exec_outPort (p : Byte) (s : State) :
    exec (.outPort p) s = .next ((s.setPorts (portOut p s.regs.a s.ports)).past (.outPort p)) := rfl

/-! ## The statements -/

/-- The result of IN of a port that answers: A alone is written, with the byte of the port. -/
theorem exec_inPort_result {p v : Byte} {s : State} (h : portIn p s.ports = some v) :
    ∃ t, exec (.inPort p) s = .next t ∧ t.regs.a = v ∧ KeepsAllBut [.a] [] s t ∧ t.flags = s.flags ∧ t.sp = s.sp ∧
      Advances (.inPort p) s t :=
  exec_result_of_setReg (exec_inPort_of_some h)

/-- Settles O50: IN writes A alone with the byte that port 1, 2 or 3 answers, and every other port is refused. -/
theorem inputResults : Obligations.InputResults := by
  refine ⟨fun s => ?port1, fun s => exec_inPort_result (portIn_two s.ports), fun s => ?port3,
    fun p s h1 h2 h3 => exec_inPort_of_none (portIn_other s.ports h1 h2 h3)⟩
  case port1 =>
    obtain ⟨t, ht, ha, hrest⟩ := exec_inPort_result (portIn_one s.ports)
    exact ⟨t, ht, ha, ha ▸ getLsbD_or_eight_three s.ports.in1, hrest⟩
  case port3 =>
    obtain ⟨t, ht, ha, hrest⟩ := exec_inPort_result (portIn_three s.ports)
    exact ⟨t, ht, fun j hj => ha ▸ getLsbD_byteAt _ _ hj, hrest⟩

/-- Settles O51: OUT of any port ends with the ports `portOut` gives, whose one write depends on the port. -/
theorem outputResults : Obligations.OutputResults := by
  intro p s
  refine ⟨portOut p s.regs.a s.ports, exec_outPort p s, ?offset, ?latch3, ?shift, ?latch5, portOut_other _ _⟩
  case offset =>
    rintro rfl
    rw [portOut_two]
    exact ⟨extractLsb'_zero_three_toNat s.regs.a, rfl⟩
  case latch3 =>
    rintro rfl
    exact portOut_three _ _
  case shift =>
    rintro rfl
    rw [portOut_four]
    exact ⟨pair_hi8_toNat s.regs.a s.ports.shiftValue, rfl⟩
  case latch5 =>
    rintro rfl
    exact portOut_five _ _

end Sys2Proof.Machine
end

section
/-! PROOFS. The decoder and the encoder are inverse (30_encoding.md R120 to R136): decoding the bytes of an instruction,
encoding what three bytes decode to, the opcode byte of every form, and the twelve byte values without an instruction. -/

namespace Sys2Proof

/-! ## Decoding the bytes of an instruction -/

/-- R134: the length of the opcode is the number of operand bytes the decoder takes from the front of the list. -/
theorem decode_encode_append (i : Instr) (rest : List Byte) :
    decode (encode i ++ rest) = .ok (decodeBytes i.opcode (i.operandBytes.getD 0 0) (i.operandBytes.getD 1 0), rest) := by
  cases i <;> rfl

/-- R129 to R133, R135: the opcode byte selects the row of the instruction and the operand bytes give its operand back;
a word is put together again from its two bytes. -/
theorem decodeBytes_opcode_operandBytes (i : Instr) :
    decodeBytes i.opcode (i.operandBytes.getD 0 0) (i.operandBytes.getD 1 0) = i := by
  cases i
  all_goals dsimp only [Instr.opcode, Instr.operandBytes]
  case lxiB w | lxiD w | lxiH w | lxiSP w | shld w | lhld w | sta w | lda w | jmp w | call w | jnz w | jz w | jnc w | jc w
      | jpo w | jpe w | jp w | jm w | cnz w | cz w | cnc w | cc w | cpo w | cpe w | cp w | cm w =>
    exact congrArg _ (pair_hi8_lo8 w)
  all_goals rfl

/-- Settles O3: the decoder takes the bytes the encoder wrote, and they stand for the instruction. -/
theorem decodeOfEncodeIsTheInstruction : Obligations.DecodeOfEncodeIsTheInstruction := fun i rest => by
  rw [decode_encode_append, decodeBytes_opcode_operandBytes]

/-! ## Encoding what bytes decode to -/

/-- Every byte value is the opcode byte of a row of the table. -/
theorem opcode_decodeBytes_zero : ∀ op : Byte, (decodeBytes op 0 0).opcode = op := by
  decide

/-- The opcode byte of i, with any two bytes after it, decodes to an instruction whose bytes are the first of them. -/
theorem encode_decodeBytes_opcode (i : Instr) (b1 b2 : Byte) :
    encode (decodeBytes i.opcode b1 b2) = [i.opcode, b1, b2].take (lengthOf i.opcode) := by
  have hword : [lo8 (pair b2 b1), hi8 (pair b2 b1)] = [b1, b2] := by rw [lo8_pair, hi8_pair]
  cases i
  all_goals dsimp only [Instr.opcode, Instr.operandBytes]
  case lxiB w | lxiD w | lxiH w | lxiSP w | shld w | lhld w | sta w | lda w | jmp w | call w | jnz w | jz w | jnc w | jc w
      | jpo w | jpe w | jp w | jm w | cnz w | cz w | cnc w | cc w | cpo w | cpe w | cp w | cm w =>
    exact congrArg _ hword
  all_goals rfl

/-- Settles O4: the opcode byte is that of some row, and the row says which of the two other bytes are operands. -/
theorem encodeOfDecodeIsTheFetchedBytes : Obligations.EncodeOfDecodeIsTheFetchedBytes := fun op b1 b2 => by
  have h := encode_decodeBytes_opcode (decodeBytes op 0 0) b1 b2
  rwa [opcode_decodeBytes_zero] at h

/-! ## The illegal byte values -/

/-- Whether bytes decode to an instruction depends on the opcode byte alone. -/
theorem wellFormed_decodeBytes_opcode (i : Instr) (b1 b2 : Byte) :
    (decodeBytes i.opcode b1 b2).wellFormed = i.wellFormed := by
  cases i <;> dsimp only [Instr.opcode] <;> rfl

theorem wellFormed_decodeBytes (op b1 b2 : Byte) :
    (decodeBytes op b1 b2).wellFormed = (decodeBytes op 0 0).wellFormed := by
  have h := wellFormed_decodeBytes_opcode (decodeBytes op 0 0) b1 b2
  rwa [opcode_decodeBytes_zero] at h

/-- R133: the rows that are illegal are those whose opcode byte the default of UNIMPLEMENTED lists. -/
theorem opcode_mem_unimplemented_default_iff (i : Instr) :
    i.opcode ∈ Config.default.unimplemented ↔ i.wellFormed = false := by
  cases i <;> dsimp only [Instr.opcode, Instr.wellFormed] <;> decide

theorem mem_unimplemented_default_iff (op : Byte) :
    op ∈ Config.default.unimplemented ↔ (decodeBytes op 0 0).wellFormed = false := by
  have h := opcode_mem_unimplemented_default_iff (decodeBytes op 0 0)
  rwa [opcode_decodeBytes_zero] at h

/-- Settles O7: the bytes after the opcode do not matter, and the opcodes of the illegal rows are the default list. -/
theorem exactlyTwelveByteValuesAreIllegal : Obligations.ExactlyTwelveByteValuesAreIllegal :=
  ⟨fun op b1 b2 => by rw [wellFormed_decodeBytes]; exact (mem_unimplemented_default_iff op).symm,
    mem_unimplemented_default_iff⟩

/-! ## The opcodes and the words of the spec -/

/-- Settles O5: each form has the opcode byte that R129 to R132 make of its operands' codes, one case per operand. -/
theorem opcodeFieldsAreTheSpecsCodes : Obligations.OpcodeFieldsAreTheSpecsCodes := by
  refine ⟨?mov, ?movFromM, ?movToM, rfl, ?aluReg, ?aluMem, ?aluImm, ?mvi, ?inrDcr, ?lxi, ?inxDcxDad, ?staxLdax, ?branch,
    ?popPush, ?rst, rfl, rfl, fun _ => rfl, rfl, rfl, rfl, rfl, rfl, rfl, rfl, rfl, rfl, rfl, rfl,
    fun _ => ⟨rfl, rfl, rfl, rfl, rfl, rfl⟩, fun _ => ⟨rfl, rfl⟩, rfl, rfl, rfl, rfl, rfl, rfl, rfl⟩
  case mov => intro dst r; cases dst <;> cases r <;> rfl
  case movFromM => intro dst; cases dst <;> rfl
  case movToM => intro r; cases r <;> rfl
  case aluReg => intro k r; cases k <;> cases r <;> rfl
  case aluMem => intro k; cases k <;> rfl
  case aluImm => intro k v; cases k <;> rfl
  case mvi => intro dst v; cases dst <;> rfl
  case inrDcr => intro dst; cases dst <;> exact ⟨rfl, rfl⟩
  case lxi => intro p v; cases p <;> rfl
  case inxDcxDad => intro p; cases p <;> exact ⟨rfl, rfl, rfl⟩
  case staxLdax => intro p; cases p <;> exact ⟨rfl, rfl⟩
  case branch => intro cnd v; cases cnd <;> exact ⟨rfl, rfl, rfl⟩
  case popPush => intro p; cases p <;> exact ⟨rfl, rfl⟩
  case rst => decide

/-- Settles O8: the decoder evaluates each of the words, the illegal one and the two that end too soon too. -/
theorem wordsOfTheSpecDecode : Obligations.WordsOfTheSpecDecode :=
  ⟨rfl, rfl, rfl, rfl, rfl, rfl, rfl, rfl, rfl, rfl, rfl⟩

end Sys2Proof
end

section
/-! PROOFS. The forms of the instructions: one case per form with its operands (files 40 to 48) in place of one per row of
the opcode table, and what each form executes. -/

namespace Sys2Proof

/-- Every row of the table is a form with its operands, so what holds of every form holds of every instruction. -/
theorem Instr.byForm {motive : Instr → Prop} (nop : motive .nop) (mov : ∀ dst r, motive (.mov dst r))
    (movFromM : ∀ dst, motive (.movFromM dst)) (movToM : ∀ r, motive (.movToM r)) (mvi : ∀ dst v, motive (.mvi dst v))
    (mviM : ∀ v, motive (.mviM v)) (lxi : ∀ p v, motive (.lxi p v)) (lda : ∀ w, motive (.lda w))
    (sta : ∀ w, motive (.sta w)) (lhld : ∀ w, motive (.lhld w)) (shld : ∀ w, motive (.shld w))
    (ldax : ∀ p, motive (.ldax p)) (stax : ∀ p, motive (.stax p)) (inx : ∀ p, motive (.inx p))
    (dcx : ∀ p, motive (.dcx p)) (dad : ∀ p, motive (.dad p)) (inr : ∀ r, motive (.inr r)) (inrM : motive .inrM)
    (dcr : ∀ r, motive (.dcr r)) (dcrM : motive .dcrM) (alu : ∀ k x, motive (.alu k x)) (rlc : motive .rlc)
    (rrc : motive .rrc) (ral : motive .ral) (rar : motive .rar) (cma : motive .cma) (cmc : motive .cmc)
    (stc : motive .stc) (daa : motive .daa) (jmp : ∀ w, motive (.jmp w)) (jcc : ∀ cnd w, motive (.jcc cnd w))
    (call : ∀ w, motive (.call w)) (ccc : ∀ cnd w, motive (.ccc cnd w)) (ret : motive .ret)
    (rcc : ∀ cnd, motive (.rcc cnd)) (rst : ∀ n, motive (.rst n)) (pchl : motive .pchl)
    (push : ∀ p, motive (.push p)) (pushPSW : motive .pushPSW) (pop : ∀ p, motive (.pop p)) (popPSW : motive .popPSW)
    (xchg : motive .xchg) (xthl : motive .xthl) (sphl : motive .sphl) (inPort : ∀ p, motive (.inPort p))
    (outPort : ∀ p, motive (.outPort p)) (ei : motive .ei) (di : motive .di) (hlt : motive .hlt)
    (illegal : ∀ i, i.wellFormed = false → motive i) : ∀ i, motive i
  | .lxiB v => lxi .bc v | .mviB v => mvi .b v | .mviC v => mvi .c v | .lxiD v => lxi .de v | .mviD v => mvi .d v
  | .mviE v => mvi .e v | .lxiH v => lxi .hl v | .shld w => shld w | .mviH v => mvi .h v | .lhld w => lhld w
  | .mviL v => mvi .l v | .lxiSP v => lxi .sp v | .sta w => sta w | .mviM w => mviM w | .lda w => lda w
  | .mviA v => mvi .a v | .jnz v => jcc .nz v | .jmp w => jmp w | .cnz v => ccc .nz v | .adi v => alu .add (.imm v)
  | .jz v => jcc .z v | .cz v => ccc .z v | .call w => call w | .aci v => alu .adc (.imm v) | .jnc v => jcc .nc v
  | .outPort w => outPort w | .cnc v => ccc .nc v | .sui v => alu .sub (.imm v) | .jc v => jcc .c v
  | .inPort w => inPort w | .cc v => ccc .c v | .sbi v => alu .sbb (.imm v) | .jpo v => jcc .po v
  | .cpo v => ccc .po v | .ani v => alu .ana (.imm v) | .jpe v => jcc .pe v | .cpe v => ccc .pe v
  | .xri v => alu .xra (.imm v) | .jp v => jcc .p v | .cp v => ccc .p v | .ori v => alu .ora (.imm v)
  | .jm v => jcc .m v | .cm v => ccc .m v | .cpi v => alu .cmp (.imm v) | .nop => nop | .staxB => stax .bc
  | .inxB => inx .bc | .inrB => inr .b | .dcrB => dcr .b | .rlc => rlc | .illegal08 => illegal .illegal08 rfl
  | .dadB => dad .bc | .ldaxB => ldax .bc | .dcxB => dcx .bc | .inrC => inr .c | .dcrC => dcr .c | .rrc => rrc
  | .illegal10 => illegal .illegal10 rfl | .staxD => stax .de | .inxD => inx .de | .inrD => inr .d | .dcrD => dcr .d
  | .ral => ral | .illegal18 => illegal .illegal18 rfl | .dadD => dad .de | .ldaxD => ldax .de | .dcxD => dcx .de
  | .inrE => inr .e | .dcrE => dcr .e | .rar => rar | .illegal20 => illegal .illegal20 rfl | .inxH => inx .hl
  | .inrH => inr .h | .dcrH => dcr .h | .daa => daa | .illegal28 => illegal .illegal28 rfl | .dadH => dad .hl
  | .dcxH => dcx .hl | .inrL => inr .l | .dcrL => dcr .l | .cma => cma | .illegal30 => illegal .illegal30 rfl
  | .inxSP => inx .sp | .inrM => inrM | .dcrM => dcrM | .stc => stc | .illegal38 => illegal .illegal38 rfl
  | .dadSP => dad .sp | .dcxSP => dcx .sp | .inrA => inr .a | .dcrA => dcr .a | .cmc => cmc | .movBB => mov .b .b
  | .movBC => mov .b .c | .movBD => mov .b .d | .movBE => mov .b .e | .movBH => mov .b .h | .movBL => mov .b .l
  | .movBM => movFromM .b | .movBA => mov .b .a | .movCB => mov .c .b | .movCC => mov .c .c | .movCD => mov .c .d
  | .movCE => mov .c .e | .movCH => mov .c .h | .movCL => mov .c .l | .movCM => movFromM .c | .movCA => mov .c .a
  | .movDB => mov .d .b | .movDC => mov .d .c | .movDD => mov .d .d | .movDE => mov .d .e | .movDH => mov .d .h
  | .movDL => mov .d .l | .movDM => movFromM .d | .movDA => mov .d .a | .movEB => mov .e .b | .movEC => mov .e .c
  | .movED => mov .e .d | .movEE => mov .e .e | .movEH => mov .e .h | .movEL => mov .e .l | .movEM => movFromM .e
  | .movEA => mov .e .a | .movHB => mov .h .b | .movHC => mov .h .c | .movHD => mov .h .d | .movHE => mov .h .e
  | .movHH => mov .h .h | .movHL => mov .h .l | .movHM => movFromM .h | .movHA => mov .h .a | .movLB => mov .l .b
  | .movLC => mov .l .c | .movLD => mov .l .d | .movLE => mov .l .e | .movLH => mov .l .h | .movLL => mov .l .l
  | .movLM => movFromM .l | .movLA => mov .l .a | .movMB => movToM .b | .movMC => movToM .c | .movMD => movToM .d
  | .movME => movToM .e | .movMH => movToM .h | .movML => movToM .l | .hlt => hlt | .movMA => movToM .a
  | .movAB => mov .a .b | .movAC => mov .a .c | .movAD => mov .a .d | .movAE => mov .a .e | .movAH => mov .a .h
  | .movAL => mov .a .l | .movAM => movFromM .a | .movAA => mov .a .a | .addB => alu .add (.reg .b)
  | .addC => alu .add (.reg .c) | .addD => alu .add (.reg .d) | .addE => alu .add (.reg .e)
  | .addH => alu .add (.reg .h) | .addL => alu .add (.reg .l) | .addM => alu .add .mem | .addA => alu .add (.reg .a)
  | .adcB => alu .adc (.reg .b) | .adcC => alu .adc (.reg .c) | .adcD => alu .adc (.reg .d)
  | .adcE => alu .adc (.reg .e) | .adcH => alu .adc (.reg .h) | .adcL => alu .adc (.reg .l) | .adcM => alu .adc .mem
  | .adcA => alu .adc (.reg .a) | .subB => alu .sub (.reg .b) | .subC => alu .sub (.reg .c)
  | .subD => alu .sub (.reg .d) | .subE => alu .sub (.reg .e) | .subH => alu .sub (.reg .h)
  | .subL => alu .sub (.reg .l) | .subM => alu .sub .mem | .subA => alu .sub (.reg .a) | .sbbB => alu .sbb (.reg .b)
  | .sbbC => alu .sbb (.reg .c) | .sbbD => alu .sbb (.reg .d) | .sbbE => alu .sbb (.reg .e)
  | .sbbH => alu .sbb (.reg .h) | .sbbL => alu .sbb (.reg .l) | .sbbM => alu .sbb .mem | .sbbA => alu .sbb (.reg .a)
  | .anaB => alu .ana (.reg .b) | .anaC => alu .ana (.reg .c) | .anaD => alu .ana (.reg .d)
  | .anaE => alu .ana (.reg .e) | .anaH => alu .ana (.reg .h) | .anaL => alu .ana (.reg .l) | .anaM => alu .ana .mem
  | .anaA => alu .ana (.reg .a) | .xraB => alu .xra (.reg .b) | .xraC => alu .xra (.reg .c)
  | .xraD => alu .xra (.reg .d) | .xraE => alu .xra (.reg .e) | .xraH => alu .xra (.reg .h)
  | .xraL => alu .xra (.reg .l) | .xraM => alu .xra .mem | .xraA => alu .xra (.reg .a) | .oraB => alu .ora (.reg .b)
  | .oraC => alu .ora (.reg .c) | .oraD => alu .ora (.reg .d) | .oraE => alu .ora (.reg .e)
  | .oraH => alu .ora (.reg .h) | .oraL => alu .ora (.reg .l) | .oraM => alu .ora .mem | .oraA => alu .ora (.reg .a)
  | .cmpB => alu .cmp (.reg .b) | .cmpC => alu .cmp (.reg .c) | .cmpD => alu .cmp (.reg .d)
  | .cmpE => alu .cmp (.reg .e) | .cmpH => alu .cmp (.reg .h) | .cmpL => alu .cmp (.reg .l) | .cmpM => alu .cmp .mem
  | .cmpA => alu .cmp (.reg .a) | .rnz => rcc .nz | .popB => pop .bc | .pushB => push .bc | .rst0 => rst 0
  | .rz => rcc .z | .ret => ret | .illegalCB => illegal .illegalCB rfl | .rst1 => rst 1 | .rnc => rcc .nc
  | .popD => pop .de | .pushD => push .de | .rst2 => rst 2 | .rc => rcc .c | .illegalD9 => illegal .illegalD9 rfl
  | .illegalDD => illegal .illegalDD rfl | .rst3 => rst 3 | .rpo => rcc .po | .popH => pop .hl | .xthl => xthl
  | .pushH => push .hl | .rst4 => rst 4 | .rpe => rcc .pe | .pchl => pchl | .xchg => xchg
  | .illegalED => illegal .illegalED rfl | .rst5 => rst 5 | .rp => rcc .p | .popPSW => popPSW | .di => di
  | .pushPSW => pushPSW | .rst6 => rst 6 | .rm => rcc .m | .sphl => sphl | .ei => ei
  | .illegalFD => illegal .illegalFD rfl | .rst7 => rst 7

namespace Machine

/-! ## What each form executes -/

/-- A state with other flags. -/
def State.setFlags (s : State) (f : Flags) : State := { s with flags := f }

/-- A state with another SP. -/
def State.setSp (s : State) (v : Word) : State := { s with sp := v }

/-- `State.setSp` is what the model writes when it writes the pair SP. -/
theorem State.setPair_sp_eq_setSp (s : State) (v : Word) : s.setPair .sp v = s.setSp v := rfl

theorem exec_dad (p : Pair) (s : State) :
    exec (.dad p) s = .next (((s.setPair .hl (aluAddHl s.regs.hl (s.pairVal p) s.flags).1).setFlags
      (aluAddHl s.regs.hl (s.pairVal p) s.flags).2).past (.dad p)) := by
  cases p <;> rfl

theorem exec_inr (r : Reg) (s : State) :
    exec (.inr r) s = .next (((s.setReg r (aluInr (s.reg r) s.flags).1).setFlags
      (aluInr (s.reg r) s.flags).2).past (.inr r)) := by
  cases r <;> rfl

theorem exec_inrM (s : State) :
    exec .inrM s = .next (((s.writeByte s.regs.hl (aluInr (s.readByte s.regs.hl) s.flags).1).setFlags
      (aluInr (s.readByte s.regs.hl) s.flags).2).past .inrM) := rfl

theorem exec_dcr (r : Reg) (s : State) :
    exec (.dcr r) s = .next (((s.setReg r (aluDcr (s.reg r) s.flags).1).setFlags
      (aluDcr (s.reg r) s.flags).2).past (.dcr r)) := by
  cases r <;> rfl

theorem exec_dcrM (s : State) :
    exec .dcrM s = .next (((s.writeByte s.regs.hl (aluDcr (s.readByte s.regs.hl) s.flags).1).setFlags
      (aluDcr (s.readByte s.regs.hl) s.flags).2).past .dcrM) := rfl

theorem exec_alu (k : AluOp) (x : Src) (s : State) :
    exec (.alu k x) s = .next (((s.setReg .a (aluOp k s.regs.a (s.src x) s.flags).1).setFlags
      (aluOp k s.regs.a (s.src x) s.flags).2).past (.alu k x)) := by
  cases k <;> cases x with
  | reg r => cases r <;> rfl
  | mem => rfl
  | imm v => rfl

theorem exec_daa (s : State) :
    exec .daa s = .next (((s.setReg .a (aluDaa s.cfg.daaCarry s.regs.a s.flags).1).setFlags
      (aluDaa s.cfg.daaCarry s.regs.a s.flags).2).past .daa) := rfl

theorem exec_lhld (w : Word) (s : State) :
    exec (.lhld w) s = withAddr s.pc (dataAddr s.cfg w 1) fun next =>
      .next (((s.setReg .l (s.readByte w)).setReg .h (s.readByte next)).past (.lhld w)) := rfl

theorem exec_shld (w : Word) (s : State) :
    exec (.shld w) s = withAddr s.pc (dataAddr s.cfg w 1) fun next =>
      .next (((s.writeByte w s.regs.l).writeByte next s.regs.h).past (.shld w)) := rfl

theorem exec_call (w : Word) (s : State) : exec (.call w) s = execCall w s := rfl

theorem exec_ccc (cnd : Cond) (w : Word) (s : State) :
    exec (.ccc cnd w) s = callIf (Instr.ccc cnd w).opcode cnd w s := by
  cases cnd <;> rfl

theorem exec_ccc_of_condTrue {cnd : Cond} {s : State} (h : CondTrue cnd s.flags) (w : Word) :
    exec (.ccc cnd w) s = callTo (Instr.ccc cnd w).opcode true (s.pc + 3) w s := by
  rw [exec_ccc]
  exact if_pos ((condHolds_eq_true_iff cnd s.flags).mpr h)

theorem exec_ccc_of_not_condTrue {cnd : Cond} {s : State} (h : ¬ CondTrue cnd s.flags) (w : Word) :
    exec (.ccc cnd w) s = .next (s.past (.ccc cnd w)) := by
  rw [exec_ccc, callIf, if_neg (mt (condHolds_eq_true_iff cnd s.flags).mp h), ← advance_eq_next_past]
  cases cnd <;> rfl

theorem exec_ret (s : State) : exec .ret s = popPc Instr.ret.opcode false s := rfl

theorem exec_rcc (cnd : Cond) (s : State) : exec (.rcc cnd) s = returnIf (Instr.rcc cnd).opcode cnd s := by
  cases cnd <;> rfl

theorem exec_rcc_of_condTrue {cnd : Cond} {s : State} (h : CondTrue cnd s.flags) :
    exec (.rcc cnd) s = popPc (Instr.rcc cnd).opcode true s := by
  rw [exec_rcc]
  exact if_pos ((condHolds_eq_true_iff cnd s.flags).mpr h)

theorem exec_rcc_of_not_condTrue {cnd : Cond} {s : State} (h : ¬ CondTrue cnd s.flags) :
    exec (.rcc cnd) s = .next (s.past (.rcc cnd)) := by
  rw [exec_rcc, returnIf, if_neg (mt (condHolds_eq_true_iff cnd s.flags).mp h), ← advance_eq_next_past]
  cases cnd <;> rfl

theorem exec_rst (n : Fin 8) (s : State) :
    exec (.rst n) s = callTo (Instr.rst n).opcode false (s.pc + 1) (BitVec.ofNat 16 (n.val * 8)) s := by
  fin_cases n <;> rfl

theorem exec_pchl (s : State) : exec .pchl s = .next (s.jumped .pchl false s.regs.hl) := rfl

theorem exec_push (p : StackPair) (s : State) :
    exec (.push p) s = chain (push16 (s.regs.stackPair p) s) fun t => .next (t.past (.push p)) := by
  cases p <;> rfl

theorem exec_pushPSW (s : State) :
    exec .pushPSW s = chain (push16 s.psw s) fun t => .next (t.past .pushPSW) := rfl

theorem exec_pop (p : StackPair) (s : State) :
    exec (.pop p) s = pop16 s fun v t => .next (State.past (.pop p) { t with regs := t.regs.setStackPair p v }) := by
  cases p <;> rfl

theorem exec_popPSW (s : State) :
    exec .popPSW s = pop16 s fun v t =>
      .next (((t.setReg .a (hi8 v)).setFlags (flagsOfByte (lo8 v))).past .popPSW) := rfl

theorem exec_xchg (s : State) : exec .xchg s = .next ((exchangeDeHl s).past .xchg) := rfl

theorem exec_xthl (s : State) :
    exec .xthl s = withAddr s.pc (stackAddr s.cfg s.sp 0) fun loAddr =>
      withAddr s.pc (stackAddr s.cfg s.sp 1) fun hiAddr =>
        .next (((((s.writeByte loAddr s.regs.l).writeByte hiAddr s.regs.h).setReg .l (s.readByte loAddr)).setReg .h
          (s.readByte hiAddr)).past .xthl) := rfl

theorem exec_sphl (s : State) : exec .sphl s = .next ((s.setSp s.regs.hl).past .sphl) := rfl

theorem exec_ei (s : State) : exec .ei s = .next ((s.setInte true).past .ei) := rfl

theorem exec_di (s : State) : exec .di s = .next ((s.setInte false).past .di) := rfl

theorem exec_hlt (s : State) : exec .hlt s = .next ((s.setHalted true).past .hlt) := rfl

/-- R133, R401: each of the twelve rows is the fatal condition with its byte and the PC. -/
theorem exec_illegal {i : Instr} (h : i.wellFormed = false) (s : State) :
    exec i s = .fault (.illegalOpcode i.opcode s.pc) := by
  cases i
  case illegal08 | illegal10 | illegal18 | illegal20 | illegal28 | illegal30 | illegal38 | illegalCB | illegalD9
      | illegalDD | illegalED | illegalFD => rfl
  all_goals exact Bool.noConfusion h

end Machine

end Sys2Proof
end

section
/-! PROOFS. What an instruction leaves unchanged, said once for all of them (10_state.md R33, R35, R36, R38; 20_memory.md
R97; 60_exceptions.md R442, R446): a frame per kind of write, and from them the frame of every form. -/

namespace Sys2Proof.Machine

/-! ## The frame of an instruction -/

/-- What i leaves when it takes s to t: a flag, a byte of memory, SP, INTE, halted and the ports unless i is one of their
writers, the host's inputs, the coming events, the frame scheduler and the parameters always; and memory stays in its
canonical form. -/
structure Leaves (i : Instr) (s t : State) : Prop where
  szAcP : writesSZAcP i.opcode.toNat = false →
    t.flags.s = s.flags.s ∧ t.flags.z = s.flags.z ∧ t.flags.ac = s.flags.ac ∧ t.flags.p = s.flags.p
  cy : writesCy i.opcode.toNat = false → t.flags.cy = s.flags.cy
  mem : storesToMemory i.opcode.toNat = false → t.mem = s.mem
  wf : s.mem.wf = true → t.mem.wf = true
  sp : writesSp i.opcode.toNat = false → t.sp = s.sp
  inte : i ≠ .ei → i ≠ .di → t.inte = s.inte
  halted : i ≠ .hlt → t.halted = s.halted
  in1 : t.ports.in1 = s.ports.in1
  in2 : t.ports.in2 = s.ports.in2
  paused : t.ports.paused = s.ports.paused
  ports : (∀ p, i ≠ .outPort p) → t.ports = s.ports
  env : t.env = s.env
  frame : t.frame = s.frame
  cfg : t.cfg = s.cfg

theorem Leaves.refl (i : Instr) (s : State) : Leaves i s s := by
  constructor <;> intros <;> simp_all

section
variable {i : Instr} {s u : State}

theorem Leaves.past (h : Leaves i s u) (j : Instr) : Leaves i s (u.past j) := { h with }

theorem Leaves.jumped (h : Leaves i s u) (j : Instr) (taken : Bool) (w : Word) : Leaves i s (u.jumped j taken w) :=
  { h with }

theorem Leaves.setRegs (h : Leaves i s u) (g : Regs) : Leaves i s { u with regs := g } := { h with }

theorem Leaves.setReg (h : Leaves i s u) (r : Reg) (v : Byte) : Leaves i s (u.setReg r v) := { h with }

/-- A write of CY alone is for the writers of CY. -/
theorem Leaves.setCarry (h : Leaves i s u) (hi : writesCy i.opcode.toNat = true) (c : Bool) :
    Leaves i s (u.setCarry c) :=
  { h with cy := fun hn => Bool.noConfusion (hi.symm.trans hn) }

/-- A write of all flags but CY is for the writers of S, Z, AC and P. -/
theorem Leaves.setFlags_of_cy_eq (h : Leaves i s u) (hi : writesSZAcP i.opcode.toNat = true) (f : Flags)
    (hf : f.cy = u.flags.cy) : Leaves i s (u.setFlags f) :=
  { h with szAcP := fun hn => Bool.noConfusion (hi.symm.trans hn), cy := fun hn => hf.trans (h.cy hn) }

/-- A write of all flags is for the writers of all of them. -/
theorem Leaves.setFlags (h : Leaves i s u) (hi : writesSZAcP i.opcode.toNat = true) (hc : writesCy i.opcode.toNat = true)
    (f : Flags) : Leaves i s (u.setFlags f) :=
  { h with
    szAcP := fun hn => Bool.noConfusion (hi.symm.trans hn)
    cy := fun hn => Bool.noConfusion (hc.symm.trans hn) }

theorem Leaves.writeByte (h : Leaves i s u) (hi : storesToMemory i.opcode.toNat = true) (a : Word) (v : Byte) :
    Leaves i s (u.writeByte a v) :=
  { h with
    mem := fun hn => Bool.noConfusion (hi.symm.trans hn)
    wf := fun hw => State.wf_writeByte u a v (h.wf hw) }

theorem Leaves.setSp (h : Leaves i s u) (hi : writesSp i.opcode.toNat = true) (v : Word) : Leaves i s (u.setSp v) :=
  { h with sp := fun hn => Bool.noConfusion (hi.symm.trans hn) }

end

/-! ## The end of an instruction -/

/-- The instructions that set PC (30_encoding.md R122): JMP, CALL, RET, PCHL, RST, and Jcc, Ccc and Rcc whose condition
holds. -/
def SetsPc (i : Instr) (s : State) : Prop :=
  (∃ w, i = .jmp w ∨ i = .call w) ∨ i = .ret ∨ i = .pchl ∨ (∃ n, i = .rst n) ∨
    ∃ cnd w, (i = .jcc cnd w ∨ i = .ccc cnd w ∨ i = .rcc cnd) ∧ CondTrue cnd s.flags

/-- How i ends in t: it made its writes, PC still where it was, and the sequencer moved on; or it set PC. -/
inductive Ends (i : Instr) (s : State) : State → Prop
  | past {u : State} (hu : Leaves i s u) (hpc : u.pc = s.pc) : Ends i s (u.past i)
  | jumped {t : State} (ht : Leaves i s t) (hi : SetsPc i s) : Ends i s t

theorem Ends.leaves {i : Instr} {s t : State} (h : Ends i s t) : Leaves i s t := by
  cases h with
  | past hu => exact hu.past i
  | jumped ht => exact ht

theorem Ends.pc {i : Instr} {s t : State} (h : Ends i s t) (hi : ¬ SetsPc i s) :
    t.pc = s.pc + BitVec.ofNat 16 (encode i).length := by
  cases h with
  | past _ hpc => rw [← hpc]; rfl
  | jumped _ hj => exact absurd hj hi

/-! ## The shared operations -/

section
variable {i : Instr} {s t u : State}

/-- An instruction that always answers one state ends in that state. -/
theorem ends_of_exec (hexec : exec i s = .next (u.past i)) (hu : Leaves i s u) (hpc : u.pc = s.pc)
    (h : exec i s = .next t) : Ends i s t :=
  Host.Outcome.next.inj (hexec.symm.trans h) ▸ .past hu hpc

theorem leaves_of_push16 {v : Word} (hst : storesToMemory i.opcode.toNat = true)
    (hsp : writesSp i.opcode.toNat = true) (h : push16 v s = .next t) : Leaves i s t := by
  obtain ⟨hiAddr, loAddr, -, -, rfl⟩ := push16_eq_next h
  exact (((Leaves.refl i s).writeByte hst hiAddr (hi8 v)).writeByte hst loAddr (lo8 v)).setSp hsp (s.sp - 2)

theorem push16_pc {v : Word} (h : push16 v s = .next t) : t.pc = s.pc := by
  obtain ⟨hiAddr, loAddr, -, -, rfl⟩ := push16_eq_next h
  rfl

theorem leaves_of_callTo {op : Byte} {taken : Bool} {ret target : Word} (hst : storesToMemory i.opcode.toNat = true)
    (hsp : writesSp i.opcode.toNat = true) (h : callTo op taken ret target s = .next t) : Leaves i s t := by
  obtain ⟨u, hu, rfl⟩ := callTo_eq_next h
  exact { leaves_of_push16 hst hsp hu with }

theorem leaves_of_popPc {op : Byte} {taken : Bool} (hsp : writesSp i.opcode.toNat = true)
    (h : popPc op taken s = .next t) : Leaves i s t := by
  obtain ⟨loAddr, hiAddr, -, -, rfl⟩ := popPc_eq_next h
  exact { (Leaves.refl i s).setSp hsp (s.sp + 2) with }

theorem leaves_of_execCall {w : Word} (hst : storesToMemory i.opcode.toNat = true)
    (hsp : writesSp i.opcode.toNat = true) (h : execCall w s = .next t) : Leaves i s t := by
  rcases execCall_eq_next h with ⟨x, -, rfl⟩ | ⟨-, h⟩
  · exact { Leaves.refl i s with }
  · exact leaves_of_callTo hst hsp h

/-- OUT changes the ports, and of them neither an input byte nor the pause flag (R431 to R435). -/
theorem portOut_keeps (p v : Byte) (io : Ports) :
    (portOut p v io).in1 = io.in1 ∧ (portOut p v io).in2 = io.in2 ∧ (portOut p v io).paused = io.paused := by
  unfold portOut
  split_ifs <;> exact ⟨rfl, rfl, rfl⟩

theorem leaves_setPair (p : Pair) (hsp : p = .sp → writesSp i.opcode.toNat = true) (v : Word) :
    Leaves i s (s.setPair p v) := by
  cases p with
  | sp => exact (Leaves.refl i s).setSp (hsp rfl) v
  | bc | de | hl => exact (Leaves.refl i s).setRegs _

/-- The ALU group writes all flags, from every source operand (30_encoding.md R131, R132). -/
theorem inAluGroup_alu (k : AluOp) (x : Src) : inAluGroup (Instr.alu k x).opcode.toNat = true := by
  cases k <;> cases x with
  | reg r => cases r <;> rfl
  | mem => rfl
  | imm v => dsimp only [Instr.alu, Instr.opcode]; rfl

end

/-! ## Every form -/

/-- How every instruction ends, form by form: the writes it makes, and the class that names it as their writer. -/
theorem exec_ends {i : Instr} {s t : State} (h : exec i s = .next t) : Ends i s t := by
  induction i using Instr.byForm with
  | nop => exact ends_of_exec (exec_nop s) (.refl _ s) rfl h
  | mov dst r => exact ends_of_exec (exec_mov dst r s) (.setReg (.refl _ s) _ _) rfl h
  | movFromM dst => exact ends_of_exec (exec_movFromM dst s) (.setReg (.refl _ s) _ _) rfl h
  | movToM r =>
    have hst : storesToMemory (Instr.movToM r).opcode.toNat = true := by cases r <;> rfl
    exact ends_of_exec (exec_movToM r s) (.writeByte (.refl _ s) hst _ _) rfl h
  | mvi dst v => exact ends_of_exec (exec_mvi dst v s) (.setReg (.refl _ s) _ _) rfl h
  | mviM v =>
    have hst : storesToMemory (Instr.mviM v).opcode.toNat = true := rfl
    exact ends_of_exec (exec_mviM v s) (.writeByte (.refl _ s) hst _ _) rfl h
  | lxi p v => exact ends_of_exec (exec_lxi p v s) (leaves_setPair p (by rintro rfl; rfl) _) (by simp) h
  | lda w => exact ends_of_exec (exec_lda w s) (.setReg (.refl _ s) _ _) rfl h
  | sta w =>
    have hst : storesToMemory (Instr.sta w).opcode.toNat = true := rfl
    exact ends_of_exec (exec_sta w s) (.writeByte (.refl _ s) hst _ _) rfl h
  | lhld w =>
    obtain ⟨next, -, ht⟩ := withAddr_eq_next ((exec_lhld w s).symm.trans h)
    exact ends_of_exec (h.trans ht.symm) (.setReg (.setReg (.refl _ s) _ _) _ _) rfl h
  | shld w =>
    have hst : storesToMemory (Instr.shld w).opcode.toNat = true := rfl
    obtain ⟨next, -, ht⟩ := withAddr_eq_next ((exec_shld w s).symm.trans h)
    exact ends_of_exec (h.trans ht.symm) (.writeByte (.writeByte (.refl _ s) hst _ _) hst _ _) rfl h
  | ldax p => exact ends_of_exec (exec_ldax p s) (.setReg (.refl _ s) _ _) rfl h
  | stax p =>
    have hst : storesToMemory (Instr.stax p).opcode.toNat = true := by cases p <;> rfl
    exact ends_of_exec (exec_stax p s) (.writeByte (.refl _ s) hst _ _) rfl h
  | inx p => exact ends_of_exec (exec_inx p s) (leaves_setPair p (by rintro rfl; rfl) _) (by simp) h
  | dcx p => exact ends_of_exec (exec_dcx p s) (leaves_setPair p (by rintro rfl; rfl) _) (by simp) h
  | dad p =>
    have hcy : writesCy (Instr.dad p).opcode.toNat = true := by cases p <;> rfl
    exact ends_of_exec (exec_dad p s) (.setCarry (.setRegs (.refl _ s) _) hcy _) rfl h
  | inr r =>
    have hf : writesSZAcP (Instr.inr r).opcode.toNat = true := by cases r <;> rfl
    exact ends_of_exec (exec_inr r s) (.setFlags_of_cy_eq (.setReg (.refl _ s) _ _) hf _ rfl) rfl h
  | inrM =>
    have hst : storesToMemory Instr.inrM.opcode.toNat = true := rfl
    have hf : writesSZAcP Instr.inrM.opcode.toNat = true := rfl
    exact ends_of_exec (exec_inrM s) (.setFlags_of_cy_eq (.writeByte (.refl _ s) hst _ _) hf _ rfl) rfl h
  | dcr r =>
    have hf : writesSZAcP (Instr.dcr r).opcode.toNat = true := by cases r <;> rfl
    have hcy : writesCy (Instr.dcr r).opcode.toNat = true := by cases r <;> rfl
    exact ends_of_exec (exec_dcr r s) (.setFlags (.setReg (.refl _ s) _ _) hf hcy _) rfl h
  | dcrM =>
    have hst : storesToMemory Instr.dcrM.opcode.toNat = true := rfl
    exact ends_of_exec (exec_dcrM s) (.setFlags (.writeByte (.refl _ s) hst _ _) rfl rfl _) rfl h
  | alu k x =>
    have hf : writesSZAcP (Instr.alu k x).opcode.toNat = true := by simp [writesSZAcP, inAluGroup_alu]
    have hcy : writesCy (Instr.alu k x).opcode.toNat = true := by simp [writesCy, inAluGroup_alu]
    exact ends_of_exec (exec_alu k x s) (.setFlags (.setReg (.refl _ s) _ _) hf hcy _) rfl h
  | rlc => exact ends_of_exec (exec_rlc s) (.setCarry (.setReg (.refl .rlc s) _ _) rfl _) rfl h
  | rrc => exact ends_of_exec (exec_rrc s) (.setCarry (.setReg (.refl .rrc s) _ _) rfl _) rfl h
  | ral => exact ends_of_exec (exec_ral s) (.setCarry (.setReg (.refl .ral s) _ _) rfl _) rfl h
  | rar => exact ends_of_exec (exec_rar s) (.setCarry (.setReg (.refl .rar s) _ _) rfl _) rfl h
  | cma => exact ends_of_exec (exec_cma s) (.setReg (.refl _ s) _ _) rfl h
  | cmc => exact ends_of_exec (exec_cmc s) (.setCarry (.refl .cmc s) rfl _) rfl h
  | stc => exact ends_of_exec (exec_stc s) (.setCarry (.refl .stc s) rfl _) rfl h
  | daa => exact ends_of_exec (exec_daa s) (.setFlags (.setReg (.refl .daa s) _ _) rfl rfl _) rfl h
  | jmp w => exact .jumped (Host.Outcome.next.inj h ▸ { Leaves.refl _ s with }) (.inl ⟨w, .inl rfl⟩)
  | jcc cnd w =>
    by_cases hc : CondTrue cnd s.flags
    · have ht : s.jumped (.jcc cnd w) true w = t := Host.Outcome.next.inj ((exec_jcc_of_condTrue hc w).symm.trans h)
      exact .jumped (ht ▸ .jumped (.refl _ s) _ _ _) (.inr (.inr (.inr (.inr ⟨cnd, w, .inl rfl, hc⟩))))
    · exact ends_of_exec (exec_jcc_of_not_condTrue hc w) (.refl _ s) rfl h
  | call w =>
    have hst : storesToMemory (Instr.call w).opcode.toNat = true := rfl
    have hsp : writesSp (Instr.call w).opcode.toNat = true := rfl
    exact .jumped (leaves_of_execCall hst hsp h) (.inl ⟨w, .inr rfl⟩)
  | ccc cnd w =>
    have hst : storesToMemory (Instr.ccc cnd w).opcode.toNat = true := by cases cnd <;> rfl
    have hsp : writesSp (Instr.ccc cnd w).opcode.toNat = true := by cases cnd <;> rfl
    by_cases hc : CondTrue cnd s.flags
    · exact .jumped (leaves_of_callTo hst hsp ((exec_ccc_of_condTrue hc w).symm.trans h))
        (.inr (.inr (.inr (.inr ⟨cnd, w, .inr (.inl rfl), hc⟩))))
    · exact ends_of_exec (exec_ccc_of_not_condTrue hc w) (.refl _ s) rfl h
  | ret => exact .jumped (leaves_of_popPc rfl h) (.inr (.inl rfl))
  | rcc cnd =>
    have hsp : writesSp (Instr.rcc cnd).opcode.toNat = true := by cases cnd <;> rfl
    by_cases hc : CondTrue cnd s.flags
    · exact .jumped (leaves_of_popPc hsp ((exec_rcc_of_condTrue hc).symm.trans h))
        (.inr (.inr (.inr (.inr ⟨cnd, 0, .inr (.inr rfl), hc⟩))))
    · exact ends_of_exec (exec_rcc_of_not_condTrue hc) (.refl _ s) rfl h
  | rst n =>
    have hst : storesToMemory (Instr.rst n).opcode.toNat = true := by fin_cases n <;> rfl
    have hsp : writesSp (Instr.rst n).opcode.toNat = true := by fin_cases n <;> rfl
    exact .jumped (leaves_of_callTo hst hsp ((exec_rst n s).symm.trans h)) (.inr (.inr (.inr (.inl ⟨n, rfl⟩))))
  | pchl => exact .jumped (Host.Outcome.next.inj h ▸ { Leaves.refl _ s with }) (.inr (.inr (.inl rfl)))
  | push p =>
    have hst : storesToMemory (Instr.push p).opcode.toNat = true := by cases p <;> rfl
    have hsp : writesSp (Instr.push p).opcode.toNat = true := by cases p <;> rfl
    obtain ⟨u, hu, ht⟩ := chain_eq_next ((exec_push p s).symm.trans h)
    exact ends_of_exec (h.trans ht.symm) (leaves_of_push16 hst hsp hu) (push16_pc hu) h
  | pushPSW =>
    obtain ⟨u, hu, ht⟩ := chain_eq_next ((exec_pushPSW s).symm.trans h)
    exact ends_of_exec (h.trans ht.symm) (leaves_of_push16 rfl rfl hu) (push16_pc hu) h
  | pop p =>
    have hsp : writesSp (Instr.pop p).opcode.toNat = true := by cases p <;> rfl
    obtain ⟨loAddr, hiAddr, -, -, ht⟩ := pop16_eq_next ((exec_pop p s).symm.trans h)
    exact ends_of_exec (h.trans ht.symm) (.setRegs (.setSp (.refl _ s) hsp _) _) rfl h
  | popPSW =>
    have hsp : writesSp Instr.popPSW.opcode.toNat = true := rfl
    obtain ⟨loAddr, hiAddr, -, -, ht⟩ := pop16_eq_next ((exec_popPSW s).symm.trans h)
    exact ends_of_exec (h.trans ht.symm) (.setFlags (.setReg (.setSp (.refl _ s) hsp _) _ _) rfl rfl _) rfl h
  | xchg => exact ends_of_exec (exec_xchg s) (.setRegs (.refl _ s) _) rfl h
  | xthl =>
    have hst : storesToMemory Instr.xthl.opcode.toNat = true := rfl
    obtain ⟨loAddr, -, h'⟩ := withAddr_eq_next ((exec_xthl s).symm.trans h)
    obtain ⟨hiAddr, -, ht⟩ := withAddr_eq_next h'
    exact ends_of_exec (h.trans ht.symm)
      (.setReg (.setReg (.writeByte (.writeByte (.refl _ s) hst _ _) hst _ _) _ _) _ _) rfl h
  | sphl => exact ends_of_exec (exec_sphl s) (.setSp (.refl .sphl s) rfl _) rfl h
  | inPort p =>
    cases hp : portIn p s.ports with
    | some v => exact ends_of_exec (exec_inPort_of_some hp) (.setReg (.refl _ s) _ _) rfl h
    | none => exact nomatch (exec_inPort_of_none hp).symm.trans h
  | outPort p =>
    obtain ⟨hin1, hin2, hpaused⟩ := portOut_keeps p s.regs.a s.ports
    exact ends_of_exec (exec_outPort p s)
      { Leaves.refl (.outPort p) s with
        in1 := hin1, in2 := hin2, paused := hpaused, ports := fun hn => absurd rfl (hn p) } rfl h
  | ei => exact ends_of_exec (exec_ei s) { Leaves.refl .ei s with inte := fun hn _ => absurd rfl hn } rfl h
  | di => exact ends_of_exec (exec_di s) { Leaves.refl .di s with inte := fun _ hn => absurd rfl hn } rfl h
  | hlt => exact ends_of_exec (exec_hlt s) { Leaves.refl .hlt s with halted := fun hn => absurd rfl hn } rfl h
  | illegal i hi => exact nomatch (exec_illegal hi s).symm.trans h

theorem exec_leaves {i : Instr} {s t : State} (h : exec i s = .next t) : Leaves i s t := (exec_ends h).leaves

/-! ## The statements -/

/-- Settles O17: a memory that is left reads as before. -/
theorem onlyTheStoresWriteMemory : Obligations.OnlyTheStoresWriteMemory := fun _ _ _ h hst a =>
  congrArg (fun m => Memory.read m a.toNat) ((exec_leaves h).mem hst)

/-- Settles O18: SP is left by every instruction outside its writers. -/
theorem onlyTheListedInstructionsWriteSp : Obligations.OnlyTheListedInstructionsWriteSp := fun _ _ _ h =>
  (exec_leaves h).sp

/-- Settles O19: INTE and halted are left by every instruction but their writers. -/
theorem onlyEiDiAndHltWriteInteAndHalted : Obligations.OnlyEiDiAndHltWriteInteAndHalted := fun _ _ _ h =>
  ⟨(exec_leaves h).inte, (exec_leaves h).halted⟩

/-- Settles O20: the host's inputs, the events, the scheduler and the parameters are left by every instruction. -/
theorem noInstructionChangesTheHostsState : Obligations.NoInstructionChangesTheHostsState := fun _ _ _ h =>
  let k := exec_leaves h
  ⟨k.in1, k.in2, k.paused, k.env, k.frame, k.cfg, k.ports⟩

/-- Settles O53: the rows are `exec_illegal`, the codes the model's. -/
theorem illegalRowsRaiseIllegalOpcode : Obligations.IllegalRowsRaiseIllegalOpcode :=
  ⟨fun _ s h => exec_illegal h s, fun _ _ => rfl, fun _ => rfl, fun _ _ => rfl⟩

/-! ## The flags -/

theorem flags_of_exec_alu {k : AluOp} {x : Src} {s t : State} (h : exec (.alu k x) s = .next t) :
    t.flags = (aluOp k s.regs.a (s.src x) s.flags).2 :=
  Host.Outcome.next.inj (h.symm.trans (exec_alu k x s)) ▸ rfl

/-- R61: DCR changes CY only to 1, and only for an operand of 0x00. -/
theorem aluDcr_cy (v : Byte) (f : Flags) : (aluDcr v f).2.cy = (f.cy || v == 0) := by
  unfold aluDcr
  split
  case isTrue hv => simp [hv]
  case isFalse hv => rw [beq_false_of_ne hv, Bool.or_false]; rfl

theorem cy_of_exec_dcr {r : Reg} {s t : State} (h : exec (.dcr r) s = .next t) :
    t.flags.cy = (s.flags.cy || s.reg r == 0) :=
  Host.Outcome.next.inj (h.symm.trans (exec_dcr r s)) ▸ aluDcr_cy (s.reg r) s.flags

theorem cy_of_exec_dcrM {s t : State} (h : exec .dcrM s = .next t) : t.flags.cy = (s.flags.cy || s.readM == 0) :=
  Host.Outcome.next.inj (h.symm.trans (exec_dcrM s)) ▸ aluDcr_cy s.readM s.flags

/-- Settles O16: the classes of the frame are R38's table, and the ALU helpers set the flags it names. -/
theorem flagsAreWrittenAsTheTableSays : Obligations.FlagsAreWrittenAsTheTableSays := by
  refine ⟨fun i s t h => ⟨(exec_leaves h).szAcP, (exec_leaves h).cy⟩, ?ana, ?xra, ?ora, ?stc,
    fun _ _ _ h => cy_of_exec_dcr h, fun _ _ h => cy_of_exec_dcrM h, ?interrupt⟩
  case ana => exact fun x s t h => flags_of_exec_alu h ▸ rfl
  case xra => exact fun x s t h => flags_of_exec_alu h ▸ ⟨rfl, rfl⟩
  case ora => exact fun x s t h => flags_of_exec_alu h ▸ ⟨rfl, rfl⟩
  case stc => exact fun s t h => Host.Outcome.next.inj (h.symm.trans (exec_stc s)) ▸ rfl
  case interrupt =>
    intro n s t h
    obtain ⟨-, hflags, -⟩ := interrupt_keeps h
    exact hflags

/-- Settles O21: an instruction that does not set PC ends past its bytes. -/
theorem sequencerAdvancesPcByTheLength : Obligations.SequencerAdvancesPcByTheLength := by
  refine ⟨fun i s t h hjmp hret hpchl hrst hcond => (exec_ends h).pc ?_, fun s => ⟨_, exec_jmp s.pc s, rfl⟩⟩
  rintro (⟨w, hw⟩ | hi | hi | ⟨n, hi⟩ | ⟨cnd, w, hi, hc⟩)
  · exact hw.elim (hjmp w).1 (hjmp w).2
  · exact hret hi
  · exact hpchl hi
  · exact hrst n hi
  · exact hcond cnd w hi hc

end Sys2Proof.Machine
end

section
/-! PROOFS. The step and what every step keeps (30_encoding.md R121; 60_exceptions.md R406, R408, R418, R436, R440, R442):
the host's actions bit by bit, the invariant of the machine, the checks of a call of step(), and the halted core. -/

namespace Sys2Proof.Machine

/-! ## The host's actions -/

/-- R442: the bit takes the value and every other bit stays. -/
theorem getLsbD_withBit (v : Byte) (n : Nat) (on : Bool) {j : Nat} (hj : j < 8) :
    (withBit v n on).getLsbD j = if n = j then on else v.getLsbD j := by
  have hbit : (1#8 <<< n).getLsbD j = decide (n = j) := by
    rw [← BitVec.twoPow_eq, BitVec.getLsbD_twoPow]
    by_cases hn : n = j
    · simp [hn, hj]
    · simp [hn]
  cases on with
  | true =>
    change (v ||| 1#8 <<< n).getLsbD j = _
    rw [BitVec.getLsbD_or, hbit]
    by_cases hn : n = j <;> simp [hn]
  | false =>
    change (v &&& ~~~(1#8 <<< n)).getLsbD j = _
    rw [BitVec.getLsbD_and, BitVec.getLsbD_not, hbit, decide_eq_true hj]
    by_cases hn : n = j <;> simp [hn]

/-- The model's place of an input is the port and the bit of R440. -/
theorem inputBit_eq_place (k : Input) : inputBit k = (if k.place.1 then 1 else 2, k.place.2) := by
  cases k <;> rfl

theorem getLsbD_hostAct_input_in1 (k : Input) (on : Bool) (io : Ports) {j : Nat} (hj : j < 8) :
    (hostAct (.input k on) io).in1.getLsbD j = if inputBit k = (1, j) then on else io.in1.getLsbD j := by
  rw [inputBit_eq_place]
  cases hp : k.place.1 <;> simp [hostAct, hp, getLsbD_withBit _ _ _ hj]

theorem getLsbD_hostAct_input_in2 (k : Input) (on : Bool) (io : Ports) {j : Nat} (hj : j < 8) :
    (hostAct (.input k on) io).in2.getLsbD j = if inputBit k = (2, j) then on else io.in2.getLsbD j := by
  rw [inputBit_eq_place]
  cases hp : k.place.1 <;> simp [hostAct, hp, getLsbD_withBit _ _ _ hj]

/-- An action on an input changes nothing but the two input bytes. -/
theorem hostAct_input_eq (k : Input) (on : Bool) (io : Ports) :
    hostAct (.input k on) io =
      { io with in1 := (hostAct (.input k on) io).in1, in2 := (hostAct (.input k on) io).in2 } := by
  cases hp : k.place.1 <;> simp [hostAct, hp]

theorem hostActs_eq_foldl (acts : List HostAction) (io : Ports) :
    hostActs acts io = acts.foldl (fun io act => hostAct act io) io := by
  induction acts generalizing io with
  | nil => rfl
  | cons act rest ih => exact ih _

/-! ## The invariant -/

/-- The bits of the input ports that no input owns have their reset values (R436, R440, D25): `MachineInv` of the ports
alone. -/
structure PortsInv (io : Ports) : Prop where
  port1Bit3 : io.in1.getLsbD 3 = true
  port1Bit7 : io.in1.getLsbD 7 = false
  port2Bit0 : io.in2.getLsbD 0 = false
  port2Bit1 : io.in2.getLsbD 1 = false
  port2Bit3 : io.in2.getLsbD 3 = false
  port2Bit7 : io.in2.getLsbD 7 = false

theorem machineInv_iff (s : State) : MachineInv s ↔ s.mem.wf = true ∧ PortsInv s.ports :=
  ⟨fun ⟨hm, h3, h7, h0, h1, h3', h7'⟩ => ⟨hm, h3, h7, h0, h1, h3', h7'⟩,
    fun ⟨hm, h3, h7, h0, h1, h3', h7'⟩ => ⟨hm, h3, h7, h0, h1, h3', h7'⟩⟩

/-- R440: no input owns one of these bits. -/
theorem inputBit_ne (k : Input) :
    inputBit k ≠ (1, 3) ∧ inputBit k ≠ (1, 7) ∧ inputBit k ≠ (2, 0) ∧ inputBit k ≠ (2, 1) ∧ inputBit k ≠ (2, 3) ∧
      inputBit k ≠ (2, 7) := by
  cases k <;> decide

theorem portsInv_hostAct {io : Ports} (h : PortsInv io) (act : HostAction) : PortsInv (hostAct act io) := by
  cases act with
  | pause on => exact { h with }
  | input k on =>
    obtain ⟨h13, h17, h20, h21, h23, h27⟩ := inputBit_ne k
    constructor
    · rw [getLsbD_hostAct_input_in1 _ _ _ (by omega), if_neg h13, h.port1Bit3]
    · rw [getLsbD_hostAct_input_in1 _ _ _ (by omega), if_neg h17, h.port1Bit7]
    · rw [getLsbD_hostAct_input_in2 _ _ _ (by omega), if_neg h20, h.port2Bit0]
    · rw [getLsbD_hostAct_input_in2 _ _ _ (by omega), if_neg h21, h.port2Bit1]
    · rw [getLsbD_hostAct_input_in2 _ _ _ (by omega), if_neg h23, h.port2Bit3]
    · rw [getLsbD_hostAct_input_in2 _ _ _ (by omega), if_neg h27, h.port2Bit7]

theorem portsInv_hostActs {io : Ports} (h : PortsInv io) (acts : List HostAction) : PortsInv (hostActs acts io) := by
  induction acts generalizing io with
  | nil => exact h
  | cons act rest ih => exact ih (portsInv_hostAct h act)

theorem machineInv_boundary {s t : State} (hs : MachineInv s) (h : boundary s = .next t) : MachineInv t := by
  obtain ⟨hmem, hports⟩ := (machineInv_iff s).mp hs
  obtain ⟨-, -, -, -, -, -, ht⟩ := boundary_keeps h
  exact (machineInv_iff t).mpr ⟨boundary_wf h hmem, ht ▸ portsInv_hostActs hports _⟩

theorem machineInv_exec {i : Instr} {s t : State} (hs : MachineInv s) (h : exec i s = .next t) : MachineInv t := by
  have k := exec_leaves h
  obtain ⟨hmem, h13, h17, h20, h21, h23, h27⟩ := hs
  rw [← k.in1] at h13 h17
  rw [← k.in2] at h20 h21 h23 h27
  exact ⟨k.wf hmem, h13, h17, h20, h21, h23, h27⟩

theorem machineInv_coreStep {s t : State} (hs : MachineInv s) (h : coreStep s = .next t) : MachineInv t := by
  rcases coreStep_eq_next h with ⟨r, rfl⟩ | ⟨-, -, i, -, h⟩
  · exact { hs with }
  · exact machineInv_exec hs h

theorem machineInv_countCycles {s : State} (hs : MachineInv s) : MachineInv (countCycles s) := by
  rw [machineInv_iff] at hs ⊢
  rwa [countCycles_mem, countCycles_ports]

/-- Settles O13: the boundary, the call of step() and the frame scheduler's count each keep the invariant. -/
theorem stepKeepsTheMachineInvariant : Obligations.StepKeepsTheMachineInvariant := by
  intro s t hs h
  obtain ⟨-, u, v, hu, hv, rfl⟩ := step_eq_next h
  exact machineInv_countCycles (machineInv_coreStep (machineInv_boundary hs hu) hv)

/-- Settles O14: reset memory lists nothing, and the input bytes are 0x08 and 0x00. -/
theorem resetMeetsTheMachineInvariant : Obligations.ResetMeetsTheMachineInvariant :=
  ⟨Memory.wf_nil, rfl, rfl, rfl, rfl, rfl, rfl⟩

end Sys2Proof.Machine
end

section
/-! PROOFS. The address rules (20_memory.md R93, R94), the fetch and the checks of a call of step() (30_encoding.md R121;
60_exceptions.md R406, R408), and the event each step takes (R418, R442). -/

namespace Sys2Proof.Machine

/-! ## The address rules -/

/-- R93, R94: in range, or under `Wrap`, the address is base + k modulo 2^16. -/
theorem offsetAddr_eq_ok {policy : AddrPolicy} {base : Word} {k : Int}
    (h : (0 ≤ (base.toNat : Int) + k ∧ (base.toNat : Int) + k ≤ 0xFFFF) ∨ policy = .wrap) :
    offsetAddr policy base k = .ok (base + BitVec.ofInt 16 k) := by
  rw [← lowWord_add]
  rcases h with h | rfl
  · exact offsetAddr_inRange policy base k h
  · exact offsetAddr_wrap base k

theorem lowWord_toNat (n : Int) : ((lowWord n).toNat : Int) = n % 65536 := by
  rw [lowWord, BitVec.toNat_ofInt]
  exact Int.toNat_of_nonneg (Int.emod_nonneg n (by decide))

/-- The rule for either policy, which `dataAddr` and `stackAddr` follow. -/
theorem offsetAddr_spec (policy : AddrPolicy) (base : Word) (k : Int) :
    (0 ≤ (base.toNat : Int) + k ∧ (base.toNat : Int) + k ≤ 0xFFFF →
      ∃ a : Word, offsetAddr policy base k = .ok a ∧ (a.toNat : Int) = base.toNat + k) ∧
    (¬ (0 ≤ (base.toNat : Int) + k ∧ (base.toNat : Int) + k ≤ 0xFFFF) →
      (policy = .fault → offsetAddr policy base k = .error (base.toNat + k)) ∧
      (policy = .wrap →
        ∃ a : Word, offsetAddr policy base k = .ok a ∧ (a.toNat : Int) = (base.toNat + k) % 65536)) := by
  refine ⟨fun h => ⟨_, offsetAddr_inRange policy base k h, ?_⟩, fun h => ⟨?_, ?_⟩⟩
  · rw [lowWord_toNat]
    omega
  · rintro rfl
    exact offsetAddr_fault base k h
  · rintro rfl
    exact ⟨_, offsetAddr_wrap base k, lowWord_toNat _⟩

/-- Settles O44: fetch and data follow the rule under their policy, the stack under its own. -/
theorem addressPastTheEndFollowsThePolicy : Obligations.AddressPastTheEndFollowsThePolicy := by
  intro cfg base k n
  obtain ⟨hdIn, hdOut⟩ := offsetAddr_spec cfg.dataAddrPolicy base k
  obtain ⟨hsIn, hsOut⟩ := offsetAddr_spec cfg.stackAddrPolicy base k
  refine ⟨fun h => ?inRange, fun h => ⟨(hdOut h).1, (hdOut h).2, (hsOut h).1, (hsOut h).2⟩⟩
  obtain ⟨a, ha, han⟩ := hdIn h
  obtain ⟨b, hb, hbn⟩ := hsIn h
  exact ⟨a, b, ha, hb, han, hbn⟩

/-! ## The checks of a call of step() -/

theorem idle_of_paused {s : State} (h : s.ports.paused = true) :
    idle s = some (s.setReport { status := .paused, cycles := 0 }) := by
  rw [idle, if_pos h]

theorem idle_of_halted {s : State} (hp : s.ports.paused = false) (h : s.halted = true) :
    idle s = some (s.setReport { status := .cont, cycles := s.cfg.haltStepCycles }) := by
  rw [idle, if_neg (by simp [hp]), if_pos h]

theorem coreStep_of_idle {s t : State} (h : idle s = some t) : coreStep s = .next t := by
  rw [coreStep, h]

theorem coreStep_of_fetch_ok {s : State} {i : Instr} (h : idle s = none) (hf : fetch s = .ok i) :
    coreStep s = exec i s := by
  rw [coreStep, h]
  simp only [hf]

theorem coreStep_of_fetch_error {s : State} {x : Fault} (h : idle s = none) (hf : fetch s = .error x) :
    coreStep s = .fault x := by
  rw [coreStep, h]
  simp only [hf]

theorem fetch_of_unimplemented {s : State} (h : s.readByte s.pc ∈ s.cfg.unimplemented) :
    fetch s = .error (.illegalOpcode (s.readByte s.pc) s.pc) := by
  rw [fetch, if_pos h]

section
variable {s : State} (hop : s.readByte s.pc ∉ s.cfg.unimplemented)
include hop

theorem fetch_of_addrs {a1 a2 : Word} (h1 : dataAddr s.cfg s.pc 1 = .ok a1) (h2 : dataAddr s.cfg s.pc 2 = .ok a2) :
    fetch s = .ok (decodeBytes (s.readByte s.pc) (s.readByte a1) (s.readByte a2)) := by
  simp only [fetch, if_neg hop, h1, h2]

theorem fetch_of_first_past_end {n : Int} (h1 : dataAddr s.cfg s.pc 1 = .error n) :
    fetch s = .error (.addressOutOfRange n s.pc) := by
  simp only [fetch, if_neg hop, h1]

theorem fetch_of_second_past_end {a1 : Word} {n : Int} (h1 : dataAddr s.cfg s.pc 1 = .ok a1)
    (h2 : dataAddr s.cfg s.pc 2 = .error n) : fetch s = .error (.addressOutOfRange n s.pc) := by
  simp only [fetch, if_neg hop, h1, h2]

end

/-- R121: with an implemented opcode and addresses for PC+1 and PC+2 the three bytes are decoded. -/
theorem fetch_eq_decodeBytes {s : State} (h : s.readByte s.pc ∉ s.cfg.unimplemented)
    (ha : s.pc.toNat ≤ 0xFFFD ∨ s.cfg.dataAddrPolicy = .wrap) :
    fetch s = .ok (decodeBytes (s.readByte s.pc) (s.readByte (s.pc + 1)) (s.readByte (s.pc + 2))) := by
  have h1 : dataAddr s.cfg s.pc 1 = .ok (s.pc + 1) := offsetAddr_eq_ok (ha.imp_left fun _ => ⟨by omega, by omega⟩)
  have h2 : dataAddr s.cfg s.pc 2 = .ok (s.pc + 2) := offsetAddr_eq_ok (ha.imp_left fun _ => ⟨by omega, by omega⟩)
  exact fetch_of_addrs h h1 h2

/-- R93: under `Fault` the first operand address past 0xFFFF is 0x10000: PC+2 at 0xFFFE, PC+1 at 0xFFFF. -/
theorem fetch_past_end {s : State} (h : s.readByte s.pc ∉ s.cfg.unimplemented) (hp : s.cfg.dataAddrPolicy = .fault)
    (hpc : 0xFFFE ≤ s.pc.toNat) : fetch s = .error (.addressOutOfRange 0x10000 s.pc) := by
  have hlt := s.pc.isLt
  by_cases hlast : s.pc.toNat = 0xFFFF
  · have h1 : dataAddr s.cfg s.pc 1 = .error 0x10000 := by
      rw [dataAddr, hp, offsetAddr_fault _ _ (by omega), hlast]
      rfl
    exact fetch_of_first_past_end h h1
  · have hpc' : s.pc.toNat = 0xFFFE := by omega
    have h1 : dataAddr s.cfg s.pc 1 = .ok (s.pc + 1) := offsetAddr_eq_ok (.inl ⟨by omega, by omega⟩)
    have h2 : dataAddr s.cfg s.pc 2 = .error 0x10000 := by
      rw [dataAddr, hp, offsetAddr_fault _ _ (by omega), hpc']
      rfl
    exact fetch_of_second_past_end h h1 h2

/-- Settles O10: pause and halt are seen by `idle`, the opcode and the addresses by `fetch`, in this order. -/
theorem stepMakesItsChecksInOrder : Obligations.StepMakesItsChecksInOrder := fun _ =>
  ⟨fun hp => coreStep_of_idle (idle_of_paused hp),
    fun hp hh => coreStep_of_idle (idle_of_halted hp hh),
    fun hp hh =>
      have hidle := idle_eq_none.mpr ⟨hp, hh⟩
      ⟨fun hop => coreStep_of_fetch_error hidle (fetch_of_unimplemented hop),
        fun hop hpol hpc => coreStep_of_fetch_error hidle (fetch_past_end hop hpol hpc)⟩⟩

/-! ## A whole step -/

theorem step_of_not_ended {s : State} (he : s.ended = false) :
    step s = chain (boundary s) fun t => chain (coreStep t) fun u => .next (countCycles u) := by
  rw [step, he]
  rfl

theorem step_of_ended {s : State} (he : s.ended = true) : step s = .refused .runEnded := by
  rw [step, if_pos he]

theorem step_of_boundary {s t : State} (he : s.ended = false) (hb : boundary s = .next t) :
    step s = chain (coreStep t) fun u => .next (countCycles u) := by
  rw [step_of_not_ended he, hb, chain_next]

/-- A call of step() leaves the events, the frame scheduler and the parameters. -/
theorem coreStep_keeps {s t : State} (h : coreStep s = .next t) :
    t.cfg = s.cfg ∧ t.env = s.env ∧ t.frame = s.frame := by
  rcases coreStep_eq_next h with ⟨r, rfl⟩ | ⟨-, -, i, -, h⟩
  · exact ⟨rfl, rfl, rfl⟩
  · exact ⟨(exec_leaves h).cfg, (exec_leaves h).env, (exec_leaves h).frame⟩

/-- Under `Free` the frame scheduler's count adds nothing after a call of step(). -/
theorem chain_coreStep_countCycles {s : State} (hs : s.cfg.schedule = .free) :
    (chain (coreStep s) fun u => .next (countCycles u)) = coreStep s := by
  cases h : coreStep s with
  | next t =>
    obtain ⟨hcfg, -, -⟩ := coreStep_keeps h
    rw [chain_next, countCycles_free (hcfg ▸ hs)]
  | fault x => rfl
  | refused x => rfl

/-- With no event waiting under `Free` a step is one call of step(). -/
theorem step_free_nil {s : State} (he : s.ended = false) (hs : s.cfg.schedule = .free) (henv : s.env = []) :
    step s = coreStep s := by
  rw [step_of_boundary he (boundary_free_nil hs henv), chain_coreStep_countCycles hs]

/-- Settles O9: the call of step() after the boundary fetches what the three bytes decode to. -/
theorem stepRunsTheDecodedInstruction : Obligations.StepRunsTheDecodedInstruction := by
  refine ⟨fun s t he hb hp hh hop ha => ?_, fun s he hs henv hp hh hop ha t => ?_⟩
  · rw [step_of_boundary he hb, coreStep_of_fetch_ok (idle_eq_none.mpr ⟨hp, hh⟩) (fetch_eq_decodeBytes hop ha)]
  · rw [step_free_nil he hs henv, coreStep_of_fetch_ok (idle_eq_none.mpr ⟨hp, hh⟩) (fetch_eq_decodeBytes hop ha)]

/-- Settles O11: the one call of step() is paused. -/
theorem pausedStepChangesNothing : Obligations.PausedStepChangesNothing := fun s he hs henv hp => by
  rw [step_free_nil he hs henv, coreStep_of_idle (idle_of_paused hp)]
  rfl

/-! ## The event of a step -/

theorem takeEvent_cons {s : State} {e : Boundary} {rest : List Boundary} (h : s.env = e :: rest) :
    takeEvent s = { s with env := rest, ports := e.host.foldl (fun io act => hostAct act io) s.ports } := by
  simp [takeEvent, State.nextEvent, h, hostActs_eq_foldl]

theorem takeEvent_nil {s : State} (h : s.env = []) : takeEvent s = s := by
  cases s
  simp_all [takeEvent, State.nextEvent, hostActs]

theorem boundary_free {s : State} (hs : s.cfg.schedule = .free) :
    boundary s = freeRequest s.nextEvent.request (takeEvent s) := by
  simp [boundary, hs]

theorem nextEvent_cons {s : State} {e : Boundary} {rest : List Boundary} (h : s.env = e :: rest) : s.nextEvent = e := by
  simp [State.nextEvent, h]

theorem step_cfg_env {s t : State} (h : step s = .next t) : t.cfg = s.cfg ∧ t.env = s.env.tail := by
  obtain ⟨-, u, v, hu, hv, rfl⟩ := step_eq_next h
  obtain ⟨-, -, -, hcfg, -, henv, -⟩ := boundary_keeps hu
  obtain ⟨hcfg', henv', -⟩ := coreStep_keeps hv
  exact ⟨(countCycles_cfg v).trans (hcfg'.trans hcfg), (countCycles_env v).trans (henv'.trans henv)⟩

/-- Settles O15: the boundary takes the event, does its actions bit by bit and then makes its request; nothing after it
touches the parameters or the list. -/
theorem stepKeepsParametersAndTakesOneEvent : Obligations.StepKeepsParametersAndTakesOneEvent := by
  refine ⟨fun s t h => step_cfg_env h, fun k on io => ⟨fun j hj => ?input, hostAct_input_eq k on io⟩,
    fun _ _ => rfl, fun s e rest he => ⟨takeEvent_cons he, fun hs => ?request, fun t h => ?ports⟩,
    fun s he => ⟨takeEvent_nil he, fun hs => boundary_free_nil hs he⟩⟩
  case input => exact ⟨getLsbD_hostAct_input_in1 k on io hj, getLsbD_hostAct_input_in2 k on io hj⟩
  case request =>
    rw [boundary_free hs, nextEvent_cons he]
    exact ⟨fun n hn => by rw [hn]; rfl, fun hn => by rw [hn]; rfl⟩
  case ports =>
    obtain ⟨-, -, -, -, -, -, hports⟩ := boundary_keeps h
    exact hports

end Sys2Proof.Machine
end

section
/-! PROOFS. What no instruction looks at (70_reset_and_hazards.md R523; 60_exceptions.md R418, R420): the cycle table,
the cycles of a halted step, the schedule, the coming events and the frame scheduler. Under other ones an instruction
answers the same but for the cycles it reports. -/

namespace Sys2Proof.Machine

/-! ## Chains -/

theorem chain_assoc (r : Res) (k k' : State → Res) : chain (chain r k) k' = chain r fun t => chain (k t) k' := by
  cases r <;> rfl

theorem chain_withAddr (pc : Word) (r : Except Int Word) (k : Word → Res) (k' : State → Res) :
    chain (withAddr pc r k) k' = withAddr pc r fun a => chain (k a) k' := by
  cases r <;> rfl

theorem chain_congr {r : Res} {k k' : State → Res} (h : ∀ t, r = .next t → k t = k' t) : chain r k = chain r k' := by
  cases r with
  | next t => exact h t rfl
  | fault x => rfl
  | refused x => rfl

theorem chain_eq_self {r : Res} {k : State → Res} (h : ∀ t, r = .next t → k t = .next t) : chain r k = r := by
  cases r with
  | next t => exact h t rfl
  | fault x => rfl
  | refused x => rfl

/-! ## A state under another setting -/

/-- What no instruction looks at, or looks at for its cycles alone. -/
structure Setting where
  entries : List CycleEntry
  haltCycles : Nat
  schedule : Schedule
  env : List Boundary
  frame : Frame

/-- A state under another setting. -/
def State.under (s : State) (x : Setting) : State :=
  { s with
    cfg := { s.cfg with cycleEntries := x.entries, haltStepCycles := x.haltCycles, schedule := x.schedule }
    env := x.env
    frame := x.frame }

/-- Another cycle table is another setting. -/
theorem withCycles_eq_under (entries : List CycleEntry) (halt : Nat) (s : State) :
    withCycles entries halt s = s.under ⟨entries, halt, s.cfg.schedule, s.env, s.frame⟩ := rfl

/-- The setting of the other schedule, with the cycles of the configuration. -/
def freeSetting (fixed : Frame) (events : List Boundary) (cfg : Config) : Setting :=
  ⟨cfg.cycleEntries, cfg.haltStepCycles, .free, events, fixed⟩

theorem asFree_eq_under (fixed : Frame) (events : List Boundary) (s : State) :
    asFree fixed events s = s.under (freeSetting fixed events s.cfg) := rfl

theorem cycleTable_congr {c c' : Config} (h : c.cycleEntries = c'.cycleEntries) (op : Byte) (taken : Bool) :
    cycleTable c op taken = cycleTable c' op taken := by
  rw [cycleTable, cycleTable, h]

/-- A push answers the same under another setting. -/
theorem push16_under (v : Word) (s : State) (x : Setting) :
    push16 v (s.under x) = chain (push16 v s) fun t => .next (t.under x) := by
  simp only [push16, chain_withAddr, chain_next]
  rfl

/-- So does a request. -/
theorem interrupt_under (n : IrqLine) (s : State) (x : Setting) :
    interrupt n (s.under x) = chain (interrupt n s) fun t => .next (t.under x) := by
  cases hi : s.inte with
  | false => rw [interrupt_masked hi, interrupt_masked (s := s.under x) hi, chain_next]
  | true =>
    have hentry : ∀ u : State, u.inte = true → interrupt n u =
        chain (push16 u.pc { u with inte := false, halted := false }) fun t => .next { t with pc := n.vector } :=
      fun u hu => if_pos hu
    rw [hentry s hi, hentry (s.under x) hi, chain_assoc]
    change chain (push16 s.pc (State.under { s with inte := false, halted := false } x)) _ = _
    rw [push16_under, chain_assoc]
    rfl

/-! ## The same answer but for the cycles -/

/-- r' is what r is under the setting x: the same fault, or the same state with its own count of cycles, which is r's
when the cycle tables are the same. -/
inductive Agree (x : Setting) : Res → Res → Prop
  | next (t : State) (n : Nat) (hn : x.entries = t.cfg.cycleEntries → n = t.report.cycles) :
    Agree x (.next t) (.next ((t.setReport { t.report with cycles := n }).under x))
  | fault (e : Fault) : Agree x (.fault e) (.fault e)

theorem Agree.eq_fault {x : Setting} {r r' : Res} {e : Fault} (h : Agree x r r') (hr : r = .fault e) :
    r' = .fault e := by
  subst hr
  cases h
  rfl

theorem Agree.ne_refused {x : Setting} {r r' : Res} {e : Refusal} (h : Agree x r r') : r ≠ .refused e := by
  rintro rfl
  cases h

theorem Agree.eq_next {x : Setting} {r r' : Res} {t : State} (h : Agree x r r') (hr : r = .next t) :
    ∃ n, r' = .next ((t.setReport { t.report with cycles := n }).under x) ∧
      (x.entries = t.cfg.cycleEntries → n = t.report.cycles) := by
  subst hr
  cases h with
  | next _ n hn => exact ⟨n, rfl, hn⟩

section
variable (x : Setting)

theorem agree_past (i : Instr) (u : State) : Agree x (.next (u.past i)) (.next ((u.under x).past i)) :=
  .next (u.past i) _ fun h => cycleTable_congr h i.opcode false

theorem agree_jumpTo (op : Byte) (taken : Bool) (w : Word) (u : State) :
    Agree x (jumpTo op taken w u) (jumpTo op taken w (u.under x)) :=
  .next { u with pc := w, report := ordinaryReport u.cfg op taken } _ fun h => cycleTable_congr h op taken

variable {x}

theorem agree_withAddr {pc : Word} {r : Except Int Word} {k k' : Word → Res} (h : ∀ a, Agree x (k a) (k' a)) :
    Agree x (withAddr pc r k) (withAddr pc r k') := by
  cases r with
  | ok a => exact h a
  | error n => exact .fault _

theorem agree_push16 {v : Word} {s : State} {k k' : State → Res} (h : ∀ t, Agree x (k t) (k' (t.under x))) :
    Agree x (chain (push16 v s) k) (chain (push16 v (s.under x)) k') := by
  rw [push16_under, chain_assoc]
  simp only [push16, chain_withAddr, chain_next]
  exact agree_withAddr fun _ => agree_withAddr fun _ => h _

theorem agree_pop16 {s : State} {k k' : Word → State → Res} (h : ∀ v t, Agree x (k v t) (k' v (t.under x))) :
    Agree x (pop16 s k) (pop16 (s.under x) k') :=
  agree_withAddr fun _ => agree_withAddr fun _ => h _ _

theorem agree_callTo (op : Byte) (taken : Bool) (ret target : Word) (s : State) :
    Agree x (callTo op taken ret target s) (callTo op taken ret target (s.under x)) :=
  agree_push16 fun t => agree_jumpTo x op taken target t

theorem agree_popPc (op : Byte) (taken : Bool) (s : State) : Agree x (popPc op taken s) (popPc op taken (s.under x)) :=
  agree_pop16 fun v t => agree_jumpTo x op taken v t

theorem agree_execCall (w : Word) (s : State) : Agree x (execCall w s) (execCall w (s.under x)) := by
  have hstatus : harnessStatus w (s.under x) = harnessStatus w s := rfl
  cases hw : harnessStatus w s with
  | none =>
    simp only [execCall, hstatus, hw]
    exact agree_callTo 0xCD false (s.pc + 3) w s
  | some status =>
    simp only [execCall, hstatus, hw]
    exact .next (s.countDraw.setReport { status := status, cycles := cycleTable s.cfg 0xCD false }) _
      fun h => cycleTable_congr h 0xCD false

/-- An instruction whose writes do not look at the setting. -/
theorem agree_of_exec {i : Instr} {f : State → State} (hexec : ∀ s, exec i s = .next ((f s).past i))
    (hf : ∀ s : State, f (s.under x) = (f s).under x) (s : State) : Agree x (exec i s) (exec i (s.under x)) := by
  rw [hexec, hexec, hf]
  exact agree_past x i (f s)

theorem setPair_under (p : Pair) (v : Word) (s : State) : (s.under x).setPair p v = (s.setPair p v).under x := by
  cases p <;> rfl

theorem pairVal_under (p : Pair) (s : State) : (s.under x).pairVal p = s.pairVal p := by
  cases p <;> rfl

theorem src_under (y : Src) (s : State) : (s.under x).src y = s.src y := by
  cases y <;> rfl

end

/-- Every instruction, form by form, answers the same under another setting but for the cycles it reports. -/
theorem exec_agree (x : Setting) (i : Instr) (s : State) : Agree x (exec i s) (exec i (s.under x)) := by
  induction i using Instr.byForm with
  | nop => exact agree_of_exec exec_nop (fun _ => rfl) s
  | mov dst r => exact agree_of_exec (exec_mov dst r) (fun _ => rfl) s
  | movFromM dst => exact agree_of_exec (exec_movFromM dst) (fun _ => rfl) s
  | movToM r => exact agree_of_exec (exec_movToM r) (fun _ => rfl) s
  | mvi dst v => exact agree_of_exec (exec_mvi dst v) (fun _ => rfl) s
  | mviM v => exact agree_of_exec (exec_mviM v) (fun _ => rfl) s
  | lxi p v => exact agree_of_exec (exec_lxi p v) (setPair_under p v) s
  | lda w => exact agree_of_exec (exec_lda w) (fun _ => rfl) s
  | sta w => exact agree_of_exec (exec_sta w) (fun _ => rfl) s
  | lhld w =>
    rw [exec_lhld, exec_lhld]
    exact agree_withAddr fun next => agree_past x (.lhld w) _
  | shld w =>
    rw [exec_shld, exec_shld]
    exact agree_withAddr fun next => agree_past x (.shld w) _
  | ldax p => exact agree_of_exec (exec_ldax p) (fun _ => rfl) s
  | stax p => exact agree_of_exec (exec_stax p) (fun _ => rfl) s
  | inx p => exact agree_of_exec (exec_inx p) (fun u => by rw [pairVal_under, setPair_under]) s
  | dcx p => exact agree_of_exec (exec_dcx p) (fun u => by rw [pairVal_under, setPair_under]) s
  | dad p => exact agree_of_exec (exec_dad p) (fun u => by rw [pairVal_under]; rfl) s
  | inr r => exact agree_of_exec (exec_inr r) (fun _ => rfl) s
  | inrM => exact agree_of_exec exec_inrM (fun _ => rfl) s
  | dcr r => exact agree_of_exec (exec_dcr r) (fun _ => rfl) s
  | dcrM => exact agree_of_exec exec_dcrM (fun _ => rfl) s
  | alu k y => exact agree_of_exec (exec_alu k y) (fun u => by rw [src_under]; rfl) s
  | rlc => exact agree_of_exec exec_rlc (fun _ => rfl) s
  | rrc => exact agree_of_exec exec_rrc (fun _ => rfl) s
  | ral => exact agree_of_exec exec_ral (fun _ => rfl) s
  | rar => exact agree_of_exec exec_rar (fun _ => rfl) s
  | cma => exact agree_of_exec exec_cma (fun _ => rfl) s
  | cmc => exact agree_of_exec exec_cmc (fun _ => rfl) s
  | stc => exact agree_of_exec exec_stc (fun _ => rfl) s
  | daa => exact agree_of_exec exec_daa (fun _ => rfl) s
  | jmp w => exact agree_jumpTo x 0xC3 false w s
  | jcc cnd w =>
    by_cases hc : CondTrue cnd s.flags
    · rw [exec_jcc_of_condTrue hc, exec_jcc_of_condTrue (s := s.under x) hc]
      exact agree_jumpTo x (Instr.jcc cnd w).opcode true w s
    · rw [exec_jcc_of_not_condTrue hc, exec_jcc_of_not_condTrue (s := s.under x) hc]
      exact agree_past x (.jcc cnd w) s
  | call w => exact agree_execCall w s
  | ccc cnd w =>
    by_cases hc : CondTrue cnd s.flags
    · rw [exec_ccc_of_condTrue hc, exec_ccc_of_condTrue (s := s.under x) hc]
      exact agree_callTo _ true (s.pc + 3) w s
    · rw [exec_ccc_of_not_condTrue hc, exec_ccc_of_not_condTrue (s := s.under x) hc]
      exact agree_past x (.ccc cnd w) s
  | ret => exact agree_popPc 0xC9 false s
  | rcc cnd =>
    by_cases hc : CondTrue cnd s.flags
    · rw [exec_rcc_of_condTrue hc, exec_rcc_of_condTrue (s := s.under x) hc]
      exact agree_popPc _ true s
    · rw [exec_rcc_of_not_condTrue hc, exec_rcc_of_not_condTrue (s := s.under x) hc]
      exact agree_past x (.rcc cnd) s
  | rst n =>
    rw [exec_rst, exec_rst]
    exact agree_callTo _ false (s.pc + 1) _ s
  | pchl => exact agree_jumpTo x 0xE9 false s.regs.hl s
  | push p =>
    rw [exec_push, exec_push]
    exact agree_push16 fun t => agree_past x (.push p) t
  | pushPSW => exact agree_push16 fun t => agree_past x .pushPSW t
  | pop p =>
    rw [exec_pop, exec_pop]
    exact agree_pop16 fun v t => agree_past x (.pop p) _
  | popPSW =>
    rw [exec_popPSW, exec_popPSW]
    exact agree_pop16 fun v t => agree_past x .popPSW _
  | xchg => exact agree_of_exec exec_xchg (fun _ => rfl) s
  | xthl => exact agree_withAddr fun loAddr => agree_withAddr fun hiAddr => agree_past x .xthl _
  | sphl => exact agree_of_exec exec_sphl (fun _ => rfl) s
  | inPort p =>
    cases hp : portIn p s.ports with
    | some v =>
      rw [exec_inPort_of_some hp, exec_inPort_of_some (s := s.under x) hp]
      exact agree_past x (.inPort p) (s.setReg .a v)
    | none =>
      rw [exec_inPort_of_none hp, exec_inPort_of_none (s := s.under x) hp]
      exact .fault _
  | outPort p => exact agree_of_exec (exec_outPort p) (fun _ => rfl) s
  | ei => exact agree_of_exec exec_ei (fun _ => rfl) s
  | di => exact agree_of_exec exec_di (fun _ => rfl) s
  | hlt => exact agree_of_exec exec_hlt (fun _ => rfl) s
  | illegal i hi =>
    rw [exec_illegal hi, exec_illegal hi]
    exact .fault _

/-- An instruction that answers next answers the same state under another setting, with a count of cycles of its own. -/
theorem exec_under {i : Instr} {s t : State} (h : exec i s = .next t) (x : Setting) :
    ∃ n, exec i (s.under x) = .next ((t.setReport { t.report with cycles := n }).under x) ∧
      (x.entries = t.cfg.cycleEntries → n = t.report.cycles) :=
  (exec_agree x i s).eq_next h

/-- Settles O22: another CYCLE_TABLE is another setting, and the instruction leaves the rest of the setting. -/
theorem noResultDependsOnTheCycleTable : Obligations.NoResultDependsOnTheCycleTable := by
  intro i s t entries halt h
  obtain ⟨n, hn, -⟩ := exec_under h ⟨entries, halt, s.cfg.schedule, s.env, s.frame⟩
  have k := exec_leaves h
  refine ⟨n, ?_⟩
  rw [withCycles_eq_under, hn, withCycles_eq_under, ← k.cfg, ← k.env, ← k.frame]
  rfl

end Sys2Proof.Machine
end

section
/-! PROOFS. The frame scheduler and the interrupt requests at a boundary (60_exceptions.md R411, R412, R417, R420, R421),
and the core that is halted with INTE clear (48_io_interrupt_control.md R374). -/

namespace Sys2Proof.Machine

/-! ## Interrupt entry -/

/-- The two addresses of a push are SP-1 and SP-2 modulo 2^16, which differ. -/
theorem push_addrs_ne {cfg : Config} {sp hi lo : Word} (hhi : stackAddr cfg sp (-1) = .ok hi)
    (hlo : stackAddr cfg sp (-2) = .ok lo) : hi ≠ lo := by
  rw [offsetAddr_ok hhi, offsetAddr_ok hlo]
  intro h
  exact absurd (add_left_cancel h) (by decide)

/-- What a push leaves at its two addresses, and everywhere else. -/
theorem readByte_push (s : State) {hi lo : Word} (h : hi ≠ lo) (v : Word) :
    ((s.writeByte hi (hi8 v)).writeByte lo (lo8 v)).readByte hi = hi8 v ∧
    ((s.writeByte hi (hi8 v)).writeByte lo (lo8 v)).readByte lo = lo8 v ∧
    ∀ a, a ≠ hi → a ≠ lo → ((s.writeByte hi (hi8 v)).writeByte lo (lo8 v)).readByte a = s.readByte a := by
  refine ⟨?_, ?_, fun a hahi halo => ?_⟩
  · rw [State.readByte_writeByte, if_neg h, State.readByte_writeByte_self]
  · rw [State.readByte_writeByte_self]
  · rw [State.readByte_writeByte, if_neg halo, State.readByte_writeByte, if_neg hahi]

theorem vector_eq (n : IrqLine) : n.vector = match n with | .line1 => 0x0008 | .line2 => 0x0010 := by
  cases n <;> rfl

/-- Settles O54: with INTE clear the request is lost, with INTE set the entry pushes PC and goes to the vector. -/
theorem interruptEntryResult : Obligations.InterruptEntryResult := by
  refine ⟨fun n s h => interrupt_masked h, fun n s hi lo h hhi hlo => ?_⟩
  obtain ⟨hrhi, hrlo, hrest⟩ := readByte_push s (push_addrs_ne hhi hlo) s.pc
  exact ⟨_, interrupt_accepted h hhi hlo, rfl, rfl, vector_eq n, rfl, hrhi, hrlo, hrest, rfl, rfl, rfl, rfl, rfl, rfl,
    rfl, rfl⟩

/-- Under `Wrap` both addresses of a push exist. -/
theorem push_addrs_of_wrap {cfg : Config} (h : cfg.stackAddrPolicy = .wrap) (sp : Word) :
    stackAddr cfg sp (-1) = .ok (sp + BitVec.ofInt 16 (-1)) ∧ stackAddr cfg sp (-2) = .ok (sp + BitVec.ofInt 16 (-2)) :=
  ⟨offsetAddr_eq_ok (.inr h), offsetAddr_eq_ok (.inr h)⟩

/-- Settles O55: EI leaves INTE set and DI leaves it clear, so the request after EI is accepted and the one after DI is
lost. -/
theorem enableAndDisableTakeEffectAtOnce : Obligations.EnableAndDisableTakeEffectAtOnce := by
  intro n s hw
  obtain ⟨hhi, hlo⟩ := push_addrs_of_wrap hw s.sp
  exact ⟨⟨_, _, exec_ei s, interrupt_accepted rfl hhi hlo, rfl, rfl, rfl⟩, ⟨_, exec_di s, interrupt_masked rfl⟩⟩

/-! ## The frame scheduler's requests -/

/-- A state with another count of the frame scheduler. -/
def State.setFrame (s : State) (f : Frame) : State := { s with frame := f }

/-- A request does not look at the frame scheduler. -/
theorem interrupt_setFrame (n : IrqLine) (s : State) (f : Frame) :
    interrupt n (s.setFrame f) = chain (interrupt n s) fun t => .next (t.setFrame f) := by
  have h := interrupt_under n s ⟨s.cfg.cycleEntries, s.cfg.haltStepCycles, s.cfg.schedule, s.env, f⟩
  refine Eq.trans h (chain_congr fun t ht => ?_)
  obtain ⟨-, -, -, -, -, henv, -, hcfg⟩ := interrupt_keeps ht
  rw [← henv, ← hcfg]
  rfl

/-- The frame scheduler when the second half begins. -/
def Frame.toSecond (f : Frame) : Frame := { f with half := .second }

/-- The frame scheduler when the next frame begins and the last one has returned its count. -/
def Frame.toNext (f : Frame) : Frame := { cycles := 0, half := .first, returned := f.cycles }

section
variable {fuel : Nat} {s : State}

theorem frameRequests_first_below (hh : s.frame.half = .first) (hc : s.frame.cycles < s.cfg.halfFrameCycles) :
    frameRequests (fuel + 1) s = .next s := by
  simp [frameRequests, hh, hc]

theorem frameRequests_first_at (hh : s.frame.half = .first) (hc : s.cfg.halfFrameCycles ≤ s.frame.cycles) :
    frameRequests (fuel + 1) s = chain (interrupt .line1 (s.setFrame s.frame.toSecond)) (frameRequests fuel) := by
  simp [frameRequests, hh, Nat.not_lt.mpr hc, State.setFrame, Frame.toSecond]

theorem frameRequests_second_below (hh : s.frame.half = .second) (hc : s.frame.cycles < s.cfg.cyclesPerFrame) :
    frameRequests (fuel + 1) s = .next s := by
  simp [frameRequests, hh, hc]

theorem frameRequests_second_at (hh : s.frame.half = .second) (hc : s.cfg.cyclesPerFrame ≤ s.frame.cycles) :
    frameRequests (fuel + 1) s = chain (interrupt .line2 (s.setFrame s.frame.toNext)) (frameRequests fuel) := by
  simp [frameRequests, hh, Nat.not_lt.mpr hc, State.setFrame, Frame.toNext]

/-- R420: what the frame scheduler does with one more request allowed: nothing, or line 1 when the second half begins,
or line 2 when a frame of at least the budget returns. -/
theorem frameRequests_cases (fuel : Nat) (s : State) :
    frameRequests (fuel + 1) s = .next s ∨
    frameRequests (fuel + 1) s = chain (interrupt .line1 (s.setFrame s.frame.toSecond)) (frameRequests fuel) ∨
    s.cfg.cyclesPerFrame ≤ s.frame.cycles ∧
      frameRequests (fuel + 1) s = chain (interrupt .line2 (s.setFrame s.frame.toNext)) (frameRequests fuel) := by
  cases hh : s.frame.half with
  | first =>
    by_cases hc : s.frame.cycles < s.cfg.halfFrameCycles
    · exact .inl (frameRequests_first_below hh hc)
    · exact .inr (.inl (frameRequests_first_at hh (Nat.not_lt.mp hc)))
  | second =>
    by_cases hc : s.frame.cycles < s.cfg.cyclesPerFrame
    · exact .inl (frameRequests_second_below hh hc)
    · exact .inr (.inr ⟨Nat.not_lt.mp hc, frameRequests_second_at hh (Nat.not_lt.mp hc)⟩)

/-- At the budget in the second half line 2 is the last request, if the next frame's first half is not over at 0. -/
theorem frameRequests_second_at_eq (hh : s.frame.half = .second) (hc : s.cfg.cyclesPerFrame ≤ s.frame.cycles)
    (h0 : 0 < s.cfg.halfFrameCycles) :
    frameRequests (fuel + 2) s = interrupt .line2 (s.setFrame s.frame.toNext) := by
  rw [frameRequests_second_at hh hc]
  refine chain_eq_self fun t ht => ?_
  obtain ⟨-, -, -, hframe, -, -, -, hcfg⟩ := interrupt_keeps ht
  exact frameRequests_first_below (by rw [hframe]; rfl) (by rw [hframe, hcfg]; exact h0)

/-- With INTE clear the requests change the frame scheduler alone. -/
theorem frameRequests_masked (fuel : Nat) {s : State} (hi : s.inte = false) :
    ∃ f, frameRequests fuel s = .next (s.setFrame f) := by
  induction fuel generalizing s with
  | zero => exact ⟨s.frame, rfl⟩
  | succ fuel ih =>
    have hmasked : ∀ n f, ∃ f', chain (interrupt n (s.setFrame f)) (frameRequests fuel) = .next (s.setFrame f') := by
      intro n f
      rw [interrupt_masked (s := s.setFrame f) hi, chain_next]
      exact ih (s := s.setFrame f) hi
    rcases frameRequests_cases fuel s with h | h | ⟨-, h⟩ <;> rw [h]
    · exact ⟨s.frame, rfl⟩
    · exact hmasked _ _
    · exact hmasked _ _

/-- R421: a count that the requests have returned is not below the budget. -/
theorem frameRequests_returned {s t : State} (h : frameRequests fuel s = .next t) :
    t.frame.returned = s.frame.returned ∨ s.cfg.cyclesPerFrame ≤ t.frame.returned := by
  induction fuel generalizing s with
  | zero => cases h; exact .inl rfl
  | succ fuel ih =>
    rcases frameRequests_cases fuel s with h' | h' | ⟨hc, h'⟩ <;> rw [h'] at h
    · cases h; exact .inl rfl
    · obtain ⟨u, hu, h⟩ := chain_eq_next h
      obtain ⟨-, -, -, hframe, -, -, -, hcfg⟩ := interrupt_keeps hu
      have hret := ih h
      rwa [hframe, hcfg] at hret
    · obtain ⟨u, hu, h⟩ := chain_eq_next h
      obtain ⟨-, -, -, hframe, -, -, -, hcfg⟩ := interrupt_keeps hu
      have hret := ih h
      rw [hframe, hcfg] at hret
      exact .inr (hret.elim (fun heq => heq ▸ hc) id)

end

/-! ## The boundary under `Frame` -/

theorem boundary_frame {s : State} (hs : s.cfg.schedule = .frame) : boundary s = frameRequests 3 (takeEvent s) := by
  simp [boundary, hs]

/-- With INTE clear a boundary takes its event and changes nothing else but the frame scheduler. -/
theorem boundary_masked {s : State} (hi : s.inte = false) : ∃ f, boundary s = .next ((takeEvent s).setFrame f) := by
  cases hs : s.cfg.schedule with
  | frame => exact boundary_frame hs ▸ frameRequests_masked 3 (s := takeEvent s) hi
  | free =>
    rw [boundary_free hs]
    refine ⟨s.frame, ?_⟩
    cases s.nextEvent.request with
    | none => rfl
    | some n => exact interrupt_masked (s := takeEvent s) hi

theorem countCycles_frame {s : State} (hs : s.cfg.schedule = .frame) :
    (countCycles s).frame = { s.frame with cycles := s.frame.cycles + s.report.cycles } := by
  simp [countCycles, hs]

/-- The overshoot (R417): line 1 and right after it line 2. -/
theorem boundary_frame_overshoot {s : State} (hs : s.cfg.schedule = .frame) (hh : s.frame.half = .first)
    (hc : s.cfg.halfFrameCycles ≤ s.frame.cycles) (hf : s.cfg.cyclesPerFrame ≤ s.frame.cycles)
    (h0 : 0 < s.cfg.halfFrameCycles) :
    boundary s = chain (interrupt .line1 ((takeEvent s).setFrame s.frame.toSecond)) fun t =>
      interrupt .line2 (t.setFrame s.frame.toNext) := by
  rw [boundary_frame hs, frameRequests_first_at (s := takeEvent s) hh hc]
  refine chain_congr fun t ht => ?_
  obtain ⟨-, -, -, hframe, -, -, -, hcfg⟩ := interrupt_keeps ht
  have ht' := frameRequests_second_at_eq (fuel := 0) (s := t) (by rw [hframe]; rfl) (by rw [hframe, hcfg]; exact hf)
    (by rw [hcfg]; exact h0)
  rwa [hframe] at ht'

/-- With INTE set line 1 is accepted or faults, and line 2 is lost: only the frame scheduler goes on. -/
theorem overshoot_of_inte (s : State) (f f' : Frame) :
    (chain (interrupt .line1 (s.setFrame f)) fun t => interrupt .line2 (t.setFrame f')) =
      interrupt .line1 (s.setFrame f') := by
  rw [interrupt_setFrame, interrupt_setFrame, chain_assoc]
  refine chain_congr fun t ht => ?_
  rw [chain_next]
  have hi : t.inte = false := interrupt_inte ht
  exact interrupt_masked (s := (t.setFrame f).setFrame f') hi

theorem step_frame {s t u : State} (hs : s.cfg.schedule = .frame) (hb : boundary s = .next t) (h : step s = .next u) :
    u.frame = { t.frame with cycles := t.frame.cycles + u.report.cycles } := by
  obtain ⟨he, t', v, hb', hv, rfl⟩ := step_eq_next h
  obtain rfl : t = t' := Host.Outcome.next.inj (hb.symm.trans hb')
  obtain ⟨-, -, -, hcfg, -⟩ := boundary_keeps hb
  obtain ⟨hcfg', -, hframe⟩ := coreStep_keeps hv
  rw [countCycles_frame (by rw [hcfg', hcfg, hs]), hframe, countCycles_report]

/-- Settles O57: the clauses are the cases of the frame scheduler, which the event of the boundary does not touch. -/
theorem frameSchedulerRaisesBothLines : Obligations.FrameSchedulerRaisesBothLines := by
  refine ⟨fun s hs hh hc => ?below, fun s hs hh hc hf => ?half, fun s hs hh hc => ?second, fun s hs hh hc h0 => ?budget,
    fun s hs hh hc hf h0 => ⟨boundary_frame_overshoot hs hh hc hf h0, fun _ => ?overshoot⟩,
    fun s t u hs hb h => step_frame hs hb h⟩
  case below => rw [boundary_frame hs]; exact frameRequests_first_below (s := takeEvent s) hh hc
  case half =>
    rw [boundary_frame hs, frameRequests_first_at (s := takeEvent s) hh hc]
    refine chain_eq_self fun t ht => ?_
    obtain ⟨-, -, -, hframe, -, -, -, hcfg⟩ := interrupt_keeps ht
    exact frameRequests_second_below (by rw [hframe]; rfl) (by rw [hframe, hcfg]; exact hf)
  case second => rw [boundary_frame hs]; exact frameRequests_second_below (s := takeEvent s) hh hc
  case budget => rw [boundary_frame hs]; exact frameRequests_second_at_eq (s := takeEvent s) hh hc h0
  case overshoot =>
    rw [boundary_frame_overshoot hs hh hc hf h0]
    exact overshoot_of_inte (takeEvent s) _ _

/-- Settles O58: the requests at the boundary alone return a count. -/
theorem frameReturnsAtLeastItsBudget : Obligations.FrameReturnsAtLeastItsBudget := by
  intro s t hs h hne
  obtain ⟨-, u, v, hb, hv, -⟩ := step_eq_next h
  have hframe := step_frame hs hb h
  obtain ⟨hcfg, -⟩ := step_cfg_env h
  rw [hframe] at hne ⊢
  rw [hcfg]
  exact (frameRequests_returned (s := takeEvent s) (boundary_frame hs ▸ hb)).resolve_left hne

/-! ## Halted with INTE clear -/

/-- n steps of the machine behind the host's interface. -/
def runSteps (n : Nat) (s : State) : Res := Sys2Proof.core.run n s

theorem runSteps_succ (n : Nat) (s : State) : runSteps (n + 1) s = chain (step s) (runSteps n) := by
  refine (Host.Core.run.eq_2 Sys2Proof.core s n).trans ?_
  change _ = chain (Sys2Proof.core.step s) _
  cases Sys2Proof.core.step s <;> rfl

/-- From s to t the core stays halted with INTE clear and the run goes on, and nothing of the core changes. -/
structure StaysHalted (s t : State) : Prop where
  halted : t.halted = true
  inte : t.inte = false
  pc : t.pc = s.pc
  sp : t.sp = s.sp
  regs : t.regs = s.regs
  flags : t.flags = s.flags
  mem : t.mem = s.mem
  ended : t.ended = false

/-- A halted call of step() fetches nothing, paused or not, and does not end the run. -/
theorem coreStep_of_halted {s : State} (h : s.halted = true) :
    ∃ r : Report, coreStep s = .next (s.setReport r) ∧ (s.setReport r).ended = false := by
  cases hp : s.ports.paused with
  | true => exact ⟨_, coreStep_of_idle (idle_of_paused hp), rfl⟩
  | false => exact ⟨_, coreStep_of_idle (idle_of_halted hp h), rfl⟩

theorem ended_countCycles (s : State) : (countCycles s).ended = s.ended := by
  rw [State.ended, State.ended, countCycles_report]

theorem step_staysHalted {s : State} (he : s.ended = false) (hh : s.halted = true) (hi : s.inte = false) :
    ∃ t, step s = .next t ∧ StaysHalted s t := by
  obtain ⟨f, hb⟩ := boundary_masked hi
  obtain ⟨r, hr, hended⟩ := coreStep_of_halted (s := (takeEvent s).setFrame f) hh
  refine ⟨_, by rw [step_of_boundary he hb, hr, chain_next], ?_⟩
  constructor
  case ended => rw [ended_countCycles, hended]
  all_goals simp [State.setFrame, takeEvent, hh, hi]

/-- Settles O12: each step of the run stays halted. -/
theorem haltWithInterruptsDisabledNeverEnds : Obligations.HaltWithInterruptsDisabledNeverEnds := by
  intro n
  induction n with
  | zero => exact fun s he hh hi => ⟨s, rfl, hh, hi, rfl, rfl, rfl, rfl, rfl, he⟩
  | succ n ih =>
    intro s he hh hi
    obtain ⟨u, hu, k⟩ := step_staysHalted he hh hi
    obtain ⟨t, ht, hth, hti, hpc, hsp, hregs, hflags, hmem, hend⟩ := ih u k.ended k.halted k.inte
    have hrun : runSteps (n + 1) s = .next t := by rw [runSteps_succ, hu]; exact ht
    exact ⟨t, hrun, hth, hti, hpc.trans k.pc, hsp.trans k.sp, hregs.trans k.regs,
      hflags.trans k.flags, hmem.trans k.mem, hend⟩

end Sys2Proof.Machine
end

section
/-! PROOFS. `Free` admits every run of `Frame` (60_exceptions.md R418; 92 D15): the event that makes under `Free` the
requests the frame scheduler raises at a boundary, one step, and the run. -/

namespace Sys2Proof.Machine

/-! ## The event of a boundary -/

/-- The line the frame scheduler raises first at a boundary of s, if any.  A later request at the same boundary is lost:
when the first was accepted INTE is clear, and when it was lost INTE was clear before. -/
def frameLine (s : State) : Option IrqLine :=
  match s.frame.half with
  | .first => if s.frame.cycles < s.cfg.halfFrameCycles then none else some .line1
  | .second => if s.frame.cycles < s.cfg.cyclesPerFrame then none else some .line2

/-- The event under which `Free` does at the boundary of s what `Frame` does there. -/
def freeEvent (s : State) : Boundary where
  host := s.nextEvent.host
  request := frameLine s

/-- The requests of the frame scheduler are the first one alone, but for the frame scheduler. -/
theorem frameRequests_eq_freeRequest (fuel : Nat) (s : State) (fixed : Frame) :
    (chain (frameRequests (fuel + 1) s) fun t => .next (t.setFrame fixed)) =
      freeRequest (frameLine s) (s.setFrame fixed) := by
  have hrequest : ∀ n f, (chain (chain (interrupt n (s.setFrame f)) (frameRequests fuel)) fun t =>
      .next (t.setFrame fixed)) = interrupt n (s.setFrame fixed) := by
    intro n f
    rw [chain_assoc, interrupt_setFrame, interrupt_setFrame, chain_assoc]
    refine chain_congr fun t ht => ?_
    have hi : t.inte = false := interrupt_inte ht
    obtain ⟨f', hf'⟩ := frameRequests_masked fuel (s := t.setFrame f) hi
    rw [chain_next, hf', chain_next]
    rfl
  cases hh : s.frame.half with
  | first =>
    by_cases hc : s.frame.cycles < s.cfg.halfFrameCycles
    · rw [frameRequests_first_below hh hc]
      simp [frameLine, hh, hc, freeRequest]
    · rw [frameRequests_first_at hh (Nat.not_lt.mp hc), hrequest]
      simp [frameLine, hh, hc, freeRequest]
  | second =>
    by_cases hc : s.frame.cycles < s.cfg.cyclesPerFrame
    · rw [frameRequests_second_below hh hc]
      simp [frameLine, hh, hc, freeRequest]
    · rw [frameRequests_second_at hh (Nat.not_lt.mp hc), hrequest]
      simp [frameLine, hh, hc, freeRequest]

/-! ## One step -/

theorem interrupt_asFree (n : IrqLine) (fixed : Frame) (events : List Boundary) (s : State) :
    interrupt n (asFree fixed events s) = chain (interrupt n s) fun t => .next (asFree fixed events t) := by
  rw [asFree_eq_under, interrupt_under]
  refine chain_congr fun t ht => ?_
  obtain ⟨-, -, -, -, -, -, -, hcfg⟩ := interrupt_keeps ht
  rw [asFree_eq_under, hcfg]

theorem freeRequest_asFree (r : Option IrqLine) (fixed : Frame) (events : List Boundary) (s : State) :
    freeRequest r (asFree fixed events s) = chain (freeRequest r s) fun t => .next (asFree fixed events t) := by
  cases r with
  | none => rfl
  | some n => exact interrupt_asFree n fixed events s

theorem boundary_asFree {s : State} (hs : s.cfg.schedule = .frame) (fixed : Frame) (events : List Boundary) :
    boundary (asFree fixed (freeEvent s :: events) s) = chain (boundary s) fun t => .next (asFree fixed events t) := by
  calc boundary (asFree fixed (freeEvent s :: events) s)
      = freeRequest (frameLine (takeEvent s)) (asFree fixed events ((takeEvent s).setFrame fixed)) := rfl
    _ = chain (frameRequests 3 (takeEvent s)) fun t => .next (asFree fixed events t) := by
      rw [freeRequest_asFree, ← frameRequests_eq_freeRequest 2, chain_assoc]
      rfl
    _ = chain (boundary s) fun t => .next (asFree fixed events t) := by rw [boundary_frame hs]

theorem exec_asFree (i : Instr) (fixed : Frame) (events : List Boundary) (s : State) :
    exec i (asFree fixed events s) = chain (exec i s) fun t => .next (asFree fixed events t) := by
  rw [asFree_eq_under]
  cases h : exec i s with
  | next t =>
    have hcfg := (exec_leaves h).cfg
    obtain ⟨n, hn, hcycles⟩ := exec_under h (freeSetting fixed events s.cfg)
    rw [hn, hcycles (by rw [hcfg]; rfl), ← hcfg]
    rfl
  | fault e => exact (exec_agree _ i s).eq_fault h
  | refused e => exact absurd h (exec_agree (freeSetting fixed events s.cfg) i s).ne_refused

theorem idle_asFree (fixed : Frame) (events : List Boundary) (s : State) :
    idle (asFree fixed events s) = (idle s).map (asFree fixed events) := by
  cases hp : s.ports.paused with
  | true => rw [idle_of_paused hp, idle_of_paused (s := asFree fixed events s) hp]; rfl
  | false =>
    cases hh : s.halted with
    | true => rw [idle_of_halted hp hh, idle_of_halted (s := asFree fixed events s) hp hh]; rfl
    | false => rw [idle_eq_none.mpr ⟨hp, hh⟩, idle_eq_none (s := asFree fixed events s) |>.mpr ⟨hp, hh⟩]; rfl

/-- The fetch looks at PC, the memory, UNIMPLEMENTED and the data address policy. -/
theorem fetch_asFree (fixed : Frame) (events : List Boundary) (s : State) :
    fetch (asFree fixed events s) = fetch s := by
  have hdata : ∀ k, dataAddr (asFree fixed events s).cfg (asFree fixed events s).pc k = dataAddr s.cfg s.pc k :=
    fun _ => rfl
  by_cases hop : s.readByte s.pc ∈ s.cfg.unimplemented
  · exact (fetch_of_unimplemented (s := asFree fixed events s) hop).trans (fetch_of_unimplemented hop).symm
  have hop' : (asFree fixed events s).readByte (asFree fixed events s).pc ∉
    (asFree fixed events s).cfg.unimplemented := hop
  cases h1 : dataAddr s.cfg s.pc 1 with
  | error n => exact (fetch_of_first_past_end hop' ((hdata 1).trans h1)).trans (fetch_of_first_past_end hop h1).symm
  | ok a1 =>
    have h1' := (hdata 1).trans h1
    cases h2 : dataAddr s.cfg s.pc 2 with
    | error n =>
      exact (fetch_of_second_past_end hop' h1' ((hdata 2).trans h2)).trans (fetch_of_second_past_end hop h1 h2).symm
    | ok a2 => exact (fetch_of_addrs hop' h1' ((hdata 2).trans h2)).trans (fetch_of_addrs hop h1 h2).symm

theorem coreStep_asFree (fixed : Frame) (events : List Boundary) (s : State) :
    coreStep (asFree fixed events s) = chain (coreStep s) fun t => .next (asFree fixed events t) := by
  have hidle := idle_asFree fixed events s
  cases h : idle s with
  | some t =>
    rw [h] at hidle
    rw [coreStep_of_idle h, coreStep_of_idle hidle, chain_next]
  | none =>
    rw [h] at hidle
    cases hf : fetch s with
    | ok i =>
      have hfree := (fetch_asFree fixed events s).trans hf
      rw [coreStep_of_fetch_ok h hf, coreStep_of_fetch_ok hidle hfree, exec_asFree]
    | error x =>
      have hfree := (fetch_asFree fixed events s).trans hf
      rw [coreStep_of_fetch_error h hf, coreStep_of_fetch_error hidle hfree, chain_fault]

/-- The frame scheduler's count is of `Frame` alone. -/
theorem countCycles_asFree (fixed : Frame) (events : List Boundary) (s : State) :
    countCycles (asFree fixed events s) = asFree fixed events (countCycles s) := by
  rw [countCycles_free (s := asFree fixed events s) rfl]
  unfold countCycles
  split <;> rfl

theorem step_asFree {s : State} (hs : s.cfg.schedule = .frame) (fixed : Frame) (events : List Boundary) :
    step (asFree fixed (freeEvent s :: events) s) = chain (step s) fun t => .next (asFree fixed events t) := by
  have hended : (asFree fixed (freeEvent s :: events) s).ended = s.ended := rfl
  cases he : s.ended with
  | true => rw [step_of_ended (hended.trans he), step_of_ended he, chain_refused]
  | false =>
    rw [step_of_not_ended (hended.trans he), step_of_not_ended he]
    simp only [boundary_asFree hs, chain_assoc, chain_next, coreStep_asFree, countCycles_asFree]

/-! ## The run -/

/-- k steps under `Free` make the run of `Frame`, whatever it ends in, and leave the events after the first k. -/
def SameRun (fixed : Frame) (s : State) (events : List Boundary) (k : Nat) : Prop :=
  runSteps k (asFree fixed events s) =
    chain (runSteps k s) fun t => .next (asFree fixed (events.drop k) t)

/-- The first step takes the event of its boundary, and the run goes on from the state it answers, if any. -/
theorem sameRun_succ {fixed : Frame} {s : State} {events : List Boundary} {k : Nat} (hs : s.cfg.schedule = .frame)
    (h : ∀ t, step s = .next t → SameRun fixed t events k) : SameRun fixed s (freeEvent s :: events) (k + 1) := by
  rw [SameRun, runSteps_succ, runSteps_succ, step_asFree hs, chain_assoc, chain_assoc]
  exact chain_congr h

theorem exists_events_sameRun (n : Nat) (s : State) (fixed : Frame) (hs : s.cfg.schedule = .frame) :
    ∃ events : List Boundary, events.length = n ∧ ∀ k ≤ n, SameRun fixed s events k := by
  induction n generalizing s with
  | zero =>
    refine ⟨[], rfl, fun k hk => ?_⟩
    obtain rfl : k = 0 := Nat.le_zero.mp hk
    rfl
  | succ n ih =>
    obtain ⟨events, hlen, hrun⟩ : ∃ events : List Boundary, events.length = n ∧
        ∀ t, step s = .next t → ∀ k ≤ n, SameRun fixed t events k := by
      cases h : step s with
      | next t =>
        obtain ⟨hcfg, -⟩ := step_cfg_env h
        obtain ⟨events, hlen, hrun⟩ := ih t (hcfg ▸ hs)
        exact ⟨events, hlen, fun t' ht' => Host.Outcome.next.inj ht' ▸ hrun⟩
      | fault x => exact ⟨List.replicate n ⟨[], none⟩, List.length_replicate, fun _ ht => nomatch ht⟩
      | refused x => exact ⟨List.replicate n ⟨[], none⟩, List.length_replicate, fun _ ht => nomatch ht⟩
    refine ⟨freeEvent s :: events, congrArg Nat.succ hlen, fun k hk => ?_⟩
    cases k with
    | zero => rfl
    | succ k => exact sameRun_succ hs fun t ht => hrun t ht k (Nat.le_of_succ_le_succ hk)

/-- Settles O59: the events are those of the boundaries of the run, and a run that is the same ends the same. -/
theorem freeAdmitsEveryRunOfFrame : Obligations.FreeAdmitsEveryRunOfFrame := by
  intro n s fixed hs
  obtain ⟨events, hlen, hrun⟩ := exists_events_sameRun n s fixed hs
  refine ⟨events, hlen, fun k hk => ⟨fun t ht => ?_, fun x hx => ?_, fun x hx => ?_⟩⟩
  · exact (hrun k hk).trans (congrArg (chain · _) ht)
  · exact (hrun k hk).trans (congrArg (chain · _) hx)
  · exact (hrun k hk).trans (congrArg (chain · _) hx)

end Sys2Proof.Machine
end

section
/-! PROOFS. The ALU (10_state.md R50 to R63; files 41 to 45): the helpers of Machine/Flags.lean meet the spec's flag rules
by bits and numbers, and the results of DAD, INR, DCR, the ALU group and DAA. -/

namespace Sys2Proof.Machine

/-! ## S, Z and P -/

/-- The parity of the number of members with a property is the exclusive or over the members. -/
theorem length_filter_mod_two {α : Type} (p : α → Bool) (l : List α) (b : Bool) :
    (((l.filter p).length + b.toNat) % 2 == 1) = l.foldl (fun c x => c ^^ p x) b := by
  induction l generalizing b with
  | nil => cases b <;> rfl
  | cons x l ih =>
    rw [List.foldl_cons, ← ih]
    cases hp : p x <;> cases b <;> simp [hp, Nat.add_assoc]

/-- R50: the model's count of ones is even exactly when the exclusive or of the bits is 0. -/
theorem parity_eq_evenOnes (v : Byte) : parity v = evenOnes v := by
  have h := length_filter_mod_two v.getLsbD (List.range 8) false
  have hfold : (List.range 8).foldl (fun c i => c ^^ v.getLsbD i) false = !evenOnes v := by
    simp [evenOnes, List.range_succ]
  rw [hfold] at h
  have hodd : parity v = !(((List.range 8).filter v.getLsbD).length % 2 == 1) := by
    rcases Nat.mod_two_eq_zero_or_one ((List.range 8).filter v.getLsbD).length with h0 | h1
    · simp [parity, onesOf, h0]
    · simp [parity, onesOf, h1]
  rw [hodd]
  simpa using congrArg (! ·) h

/-- R51. -/
theorem flagsSZP_setSZP (r : Byte) (f : Flags) : FlagsSZP r (setSZP r f) := by
  refine ⟨rfl, ?_, parity_eq_evenOnes r⟩
  rw [Bool.eq_iff_iff]
  simp [setSZP, BitVec.toNat_eq]

/-! ## The helpers by numbers -/

theorem lowByte_toNat (n : Int) : ((lowByte n).toNat : Int) = n % 256 := by
  rw [lowByte, BitVec.toNat_ofInt]
  exact Int.toNat_of_nonneg (Int.emod_nonneg n (by decide))

/-- R54. -/
theorem isSum_aluAdd (a b : Byte) (c : Bool) (f : Flags) : IsSum a b c (aluAdd a b c f).1 (aluAdd a b c f).2 := by
  refine ⟨?value, ?carry, rfl, flagsSZP_setSZP _ f⟩
  case value =>
    have h := lowByte_toNat ((a.toNat + b.toNat + c.toNat : Nat) : Int)
    change (lowByte ((a.toNat + b.toNat + c.toNat : Nat) : Int)).toNat = _
    omega
  case carry =>
    change decide (((a.toNat + b.toNat + c.toNat : Nat) : Int) < 0 ∨
      255 < ((a.toNat + b.toNat + c.toNat : Nat) : Int)) = _
    rw [decide_eq_decide]
    omega

/-- R55. -/
theorem isDifference_aluSub (a b : Byte) (c : Bool) (f : Flags) :
    IsDifference a b c (aluSub a b c f).1 (aluSub a b c f).2 := by
  have ha := a.isLt
  have hb := b.isLt
  have hc := c.toNat_le
  refine ⟨lowByte_toNat _, ?borrow, ?ac, flagsSZP_setSZP _ f⟩
  case borrow =>
    change decide ((a.toNat - b.toNat - c.toNat : Int) < 0 ∨ 255 < (a.toNat - b.toNat - c.toNat : Int)) = _
    rw [decide_eq_decide]
    omega
  case ac =>
    change decide (15 < a.toNat % 16 + (~~~b).toNat % 16 + (1 - c.toNat)) = _
    rw [decide_eq_decide, BitVec.toNat_not]
    omega

/-- R63. -/
theorem isDecimalAdjust_aluDaa (mode : DaaCarry) (a : Byte) (f : Flags) :
    IsDecimalAdjust mode a f (aluDaa mode a f).1 (aluDaa mode a f).2 := by
  refine ⟨?value, ?carry, rfl, flagsSZP_setSZP _ f⟩
  case value =>
    change _ = (a.toNat + daaCorrection a f) % 256
    cases mode with
    | wide =>
      have h := lowByte_toNat ((f.cy.toNat * 256 + a.toNat + daaCorrection a f : Nat) : Int)
      change (lowByte ((f.cy.toNat * 256 + a.toNat + daaCorrection a f : Nat) : Int)).toNat = _
      omega
    | narrow =>
      have h := lowByte_toNat ((a.toNat + daaCorrection a f : Nat) : Int)
      change (lowByte ((a.toNat + daaCorrection a f : Nat) : Int)).toNat = _
      omega
  case carry =>
    change _ = (f.cy && decide (mode = .wide) || decide (255 < a.toNat + daaCorrection a f))
    cases mode with
    | wide =>
      change decide (((f.cy.toNat * 256 + a.toNat + daaCorrection a f : Nat) : Int) < 0 ∨
        255 < ((f.cy.toNat * 256 + a.toNat + daaCorrection a f : Nat) : Int)) = _
      cases f.cy
      · rw [Bool.false_and, Bool.false_or, decide_eq_decide, Bool.toNat_false]
        omega
      · rw [Bool.true_and, decide_eq_true rfl, Bool.true_or, decide_eq_true_iff, Bool.toNat_true]
        omega
    | narrow =>
      change decide (((a.toNat + daaCorrection a f : Nat) : Int) < 0 ∨
        255 < ((a.toNat + daaCorrection a f : Nat) : Int)) = _
      rw [decide_eq_false (by decide : ¬ DaaCarry.narrow = .wide), Bool.and_false, Bool.false_or, decide_eq_decide]
      omega

/-- R60. -/
theorem aluInr_spec (v : Byte) (f : Flags) :
    (aluInr v f).1.toNat = (v.toNat + 1) % 256 ∧ FlagsSZP (aluInr v f).1 (aluInr v f).2 ∧
      (aluInr v f).2.ac = decide (v.toNat % 16 = 15) ∧ (aluInr v f).2.cy = f.cy := by
  refine ⟨BitVec.toNat_add v 1, flagsSZP_setSZP _ f, ?_, rfl⟩
  change decide (15 < v.toNat % 16 + 1) = _
  rw [decide_eq_decide]
  omega

/-- R61. -/
theorem aluDcr_spec (v : Byte) (f : Flags) :
    (aluDcr v f).1.toNat = (v.toNat + 255) % 256 ∧ FlagsSZP (aluDcr v f).1 (aluDcr v f).2 ∧
      (v = 0x00 → (aluDcr v f).2.cy = true ∧ (aluDcr v f).2.ac = true) ∧
      (v ≠ 0x00 → (aluDcr v f).2.cy = f.cy ∧ (aluDcr v f).2.ac = decide ((aluDcr v f).1.toNat % 16 ≠ 15)) := by
  have hval : (v - 1).toNat = (v.toNat + 255) % 256 := by
    rw [BitVec.toNat_sub, Nat.add_comm]
    rfl
  by_cases hv : v = 0
  · have h : aluDcr v f = (v - 1, { setSZP (v - 1) f with cy := true, ac := true }) := if_pos hv
    rw [h]
    exact ⟨hval, flagsSZP_setSZP _ f, fun _ => ⟨rfl, rfl⟩, fun hn => absurd hv hn⟩
  · have h : aluDcr v f = (v - 1, { setSZP (v - 1) f with ac := decide ((v - 1).toNat % 16 ≠ 0x0F) }) := if_neg hv
    rw [h]
    exact ⟨hval, flagsSZP_setSZP _ f, fun hz => absurd hz hv, fun _ => ⟨rfl, rfl⟩⟩

/-! ## Instructions that write one place and the flags -/

theorem KeepsAllBut.setFlags {ds : List Reg} {as : List Word} {s u : State} (h : KeepsAllBut ds as s u) (f : Flags) :
    KeepsAllBut ds as s (u.setFlags f) := { h with }

theorem exec_result_of_setReg_setFlags {i : Instr} {s : State} {dst : Reg} {r : Byte × Flags}
    (h : exec i s = .next (((s.setReg dst r.1).setFlags r.2).past i)) :
    ∃ t, exec i s = .next t ∧ t.reg dst = r.1 ∧ t.flags = r.2 ∧ KeepsAllBut [dst] [] s t ∧ t.sp = s.sp ∧
      Advances i s t :=
  ⟨_, h, State.setReg_reg_self s dst r.1, rfl, ((keepsAllBut_setReg s dst r.1).setFlags r.2).past i, rfl,
    advances_past rfl rfl i⟩

theorem exec_result_of_writeByte_setFlags {i : Instr} {s : State} {a : Word} {r : Byte × Flags}
    (h : exec i s = .next (((s.writeByte a r.1).setFlags r.2).past i)) :
    ∃ t, exec i s = .next t ∧ t.readByte a = r.1 ∧ t.flags = r.2 ∧ KeepsAllBut [] [a] s t ∧ t.sp = s.sp ∧
      Advances i s t :=
  ⟨_, h, State.readByte_writeByte_self s a r.1, rfl, ((keepsAllBut_writeByte s a r.1).setFlags r.2).past i, rfl,
    advances_past rfl rfl i⟩

/-- Settles O29: INR writes its operand and the flags `aluInr` gives. -/
theorem inrResults : Obligations.InrResults := by
  refine ⟨fun r s => ?reg, fun s => ?mem⟩
  case reg =>
    obtain ⟨t, ht, hr, hf, hkept⟩ := exec_result_of_setReg_setFlags (exec_inr r s)
    obtain ⟨hval, hszp, hac, hcy⟩ := aluInr_spec (s.reg r) s.flags
    exact ⟨t, ht, hr ▸ hval, hr ▸ hf ▸ hszp, hf ▸ hac, hf ▸ hcy, hkept⟩
  case mem =>
    obtain ⟨t, ht, hr, hf, hkept⟩ := exec_result_of_writeByte_setFlags (exec_inrM s)
    obtain ⟨hval, hszp, hac, hcy⟩ := aluInr_spec (s.readByte s.regs.hl) s.flags
    exact ⟨t, ht, hr ▸ hval, hr ▸ hf ▸ hszp, hf ▸ hac, hf ▸ hcy, hkept⟩

/-- Settles O30: DCR writes its operand and the flags `aluDcr` gives. -/
theorem dcrResults : Obligations.DcrResults := by
  refine ⟨fun r s => ?reg, fun s => ?mem⟩
  case reg =>
    obtain ⟨t, ht, hr, hf, hkept⟩ := exec_result_of_setReg_setFlags (exec_dcr r s)
    obtain ⟨hval, hszp, hzero, hother⟩ := aluDcr_spec (s.reg r) s.flags
    refine ⟨t, ht, ?_⟩
    rw [hr, hf]
    exact ⟨hval, hszp, hzero, hother, hkept⟩
  case mem =>
    obtain ⟨t, ht, hr, hf, hkept⟩ := exec_result_of_writeByte_setFlags (exec_dcrM s)
    obtain ⟨hval, hszp, hzero, hother⟩ := aluDcr_spec (s.readByte s.regs.hl) s.flags
    refine ⟨t, ht, ?_⟩
    rw [hr, hf]
    exact ⟨hval, hszp, hzero, hother, hkept⟩

/-! ## The ALU group -/

/-- An operation of the ALU group writes A and the flags `aluOp` gives. -/
theorem exec_alu_result (k : AluOp) (x : Src) (s : State) :
    ∃ t, exec (.alu k x) s = .next t ∧ t.regs.a = (aluOp k s.regs.a (s.src x) s.flags).1 ∧
      t.flags = (aluOp k s.regs.a (s.src x) s.flags).2 ∧ KeepsAllBut [.a] [] s t ∧ t.sp = s.sp ∧
      Advances (.alu k x) s t :=
  exec_result_of_setReg_setFlags (exec_alu k x s)

/-- Settles O31: ADD and ADC are `aluAdd` without and with CY. -/
theorem addAndAdcResults : Obligations.AddAndAdcResults := by
  intro x s
  obtain ⟨t, ht, htA, htF, htKept⟩ := exec_alu_result .add x s
  obtain ⟨u, hu, huA, huF, huKept⟩ := exec_alu_result .adc x s
  refine ⟨⟨t, ht, ?_, htKept⟩, ⟨u, hu, ?_, huKept⟩⟩
  · rw [htA, htF]
    exact isSum_aluAdd s.regs.a (s.src x) false s.flags
  · rw [huA, huF]
    exact isSum_aluAdd s.regs.a (s.src x) s.flags.cy s.flags

/-- Settles O32: SUB and SBB are `aluSub` without and with CY. -/
theorem subAndSbbResults : Obligations.SubAndSbbResults := by
  intro x s
  obtain ⟨t, ht, htA, htF, htKept⟩ := exec_alu_result .sub x s
  obtain ⟨u, hu, huA, huF, huKept⟩ := exec_alu_result .sbb x s
  refine ⟨⟨t, ht, ?_, htKept⟩, ⟨u, hu, ?_, huKept⟩⟩
  · rw [htA, htF]
    exact isDifference_aluSub s.regs.a (s.src x) false s.flags
  · rw [huA, huF]
    exact isDifference_aluSub s.regs.a (s.src x) s.flags.cy s.flags

/-- Settles O33: the logic operations write the bitwise result, its S, Z and P, and their own AC and CY. -/
theorem logicResults : Obligations.LogicResults := by
  intro x s
  refine ⟨?ana, ?xra, ?ora⟩
  case ana =>
    obtain ⟨t, ht, ha, hf, hkept⟩ := exec_alu_result .ana x s
    have hac : (s.regs.a ||| s.src x).getLsbD 3 = (s.regs.a.getLsbD 3 || (s.src x).getLsbD 3) := BitVec.getLsbD_or
    refine ⟨t, ht, ha, ?_⟩
    rw [ha, hf]
    exact ⟨flagsSZP_setSZP _ s.flags, rfl, hac, hkept⟩
  case xra =>
    obtain ⟨t, ht, ha, hf, hkept⟩ := exec_alu_result .xra x s
    refine ⟨t, ht, ha, ?_⟩
    rw [ha, hf]
    exact ⟨flagsSZP_setSZP _ s.flags, rfl, rfl, hkept⟩
  case ora =>
    obtain ⟨t, ht, ha, hf, hkept⟩ := exec_alu_result .ora x s
    refine ⟨t, ht, ha, ?_⟩
    rw [ha, hf]
    exact ⟨flagsSZP_setSZP _ s.flags, rfl, rfl, hkept⟩

/-- CMP writes the flags alone: the A it writes is A. -/
theorem exec_cmp (x : Src) (s : State) :
    exec (.alu .cmp x) s = .next ((s.setFlags (aluSub s.regs.a (s.src x) false s.flags).2).past (.alu .cmp x)) :=
  (exec_alu .cmp x s).trans rfl

/-- Z of a difference without borrow in says whether the operands are equal, CY which one is below. -/
theorem IsDifference.compare {a b r : Byte} {f : Flags} (h : IsDifference a b false r f) :
    (f.z = true ↔ a = b) ∧ (f.cy = true ↔ a.toNat < b.toNat) := by
  obtain ⟨hval, hcy, -, -, hz, -⟩ := h
  have ha := a.isLt
  have hb := b.isLt
  rw [Bool.toNat_false] at hval hcy
  rw [hz, hcy, decide_eq_true_iff, decide_eq_true_iff, BitVec.toNat_eq]
  omega

/-- Settles O34: CMP writes the flags of the difference and keeps A. -/
theorem compareResults : Obligations.CompareResults := by
  intro x s
  have hdiff := isDifference_aluSub s.regs.a (s.src x) false s.flags
  obtain ⟨hz, hcy⟩ := hdiff.compare
  exact ⟨_, exec_cmp x s, ⟨_, hdiff⟩, hz, hcy, ((keepsAllBut_refl s).setFlags _).past _, rfl, advances_past rfl rfl _⟩

/-! ## DAD -/

/-- Settles O28: DAD writes the pair HL with the sum modulo 65536, and of the flags CY alone. -/
theorem dadResult : Obligations.DadResult := by
  intro p s
  refine ⟨_, exec_dad p s, ?_, rfl, ((keepsAllBut_setPair s .hl _).setFlags _).past _, rfl, advances_past rfl rfl _⟩
  have hhl : (((s.setPair .hl (aluAddHl s.regs.hl (s.pairVal p) s.flags).1).setFlags
      (aluAddHl s.regs.hl (s.pairVal p) s.flags).2).past (.dad p)).regs.hl =
      (aluAddHl s.regs.hl (s.pairVal p) s.flags).1 := State.setPair_pairVal s .hl _
  have hval := lowWord_toNat ((s.regs.hl.toNat + (s.pairVal p).toNat : Nat) : Int)
  rw [hhl]
  change (lowWord ((s.regs.hl.toNat + (s.pairVal p).toNat : Nat) : Int)).toNat = _
  omega

/-! ## DAA -/

/-- DAA writes A and the flags `aluDaa` gives. -/
theorem exec_daa_result (s : State) :
    ∃ t, exec .daa s = .next t ∧ IsDecimalAdjust s.cfg.daaCarry s.regs.a s.flags t.regs.a t.flags ∧
      KeepsAllBut [.a] [] s t ∧ t.sp = s.sp ∧ Advances .daa s t := by
  obtain ⟨t, ht, ha, hf, hkept⟩ := exec_result_of_setReg_setFlags (exec_daa s)
  have ha' : t.regs.a = (aluDaa s.cfg.daaCarry s.regs.a s.flags).1 := ha
  refine ⟨t, ht, ?_, hkept⟩
  rw [ha', hf]
  exact isDecimalAdjust_aluDaa s.cfg.daaCarry s.regs.a s.flags

/-- Settles O37. -/
theorem daaResult : Obligations.DaaResult := exec_daa_result

/-- The number a packed decimal byte is. -/
theorem packedBcd_toNat {n : Nat} (h : n < 100) : (packedBcd n).toNat = n / 10 * 16 + n % 10 := by
  rw [packedBcd, BitVec.toNat_ofNat]
  omega

/-- The decimal adjust of a binary sum of packed digits, from the sums h of the high and l of the low digits (carry in
included): it adds 6 for a carry l / 10 out of the low digits and 96 for one out of the high digits with that carry. -/
theorem decimal_adjust_of_digit_sums {h l a corr : Nat} (hh : h ≤ 18) (hl : l ≤ 19) (ha : a = (h * 16 + l) % 256)
    (hcorr : corr = (if 9 < a % 16 ∨ 15 < l then 6 else 0) +
      (if 9 < a / 16 ∨ 255 < h * 16 + l ∨ (9 ≤ a / 16 ∧ 9 < a % 16) then 96 else 0)) :
    (a + corr) % 256 = (h * 10 + l) % 100 / 10 * 16 + (h * 10 + l) % 100 % 10 ∧
      ((255 < h * 16 + l ∨ 255 < a + corr) ↔ 100 ≤ h * 10 + l) := by
  have hlow : (if 9 < a % 16 ∨ 15 < l then 6 else 0) = l / 10 * 6 := by split_ifs <;> omega
  have hcond : (9 < a / 16 ∨ 255 < h * 16 + l ∨ (9 ≤ a / 16 ∧ 9 < a % 16)) ↔ 100 ≤ h * 10 + l := by omega
  have hhigh : (if 100 ≤ h * 10 + l then 96 else 0) = (h + l / 10) / 10 * 96 := by split_ifs <;> omega
  have htens : (h * 10 + l) % 100 / 10 = (h + l / 10) % 10 := by omega
  rw [hlow, if_congr hcond rfl rfl, hhigh] at hcorr
  rw [htens]
  omega

/-- Settles O38: ACI leaves the binary sum and the carries of its digits, and DAA adjusts it digit by digit. -/
theorem daaMakesThePackedDecimalSum : Obligations.DaaMakesThePackedDecimalSum := by
  intro x y s hx hy ha hwide
  obtain ⟨t, ht, htA, htF, htKept, -, -⟩ := exec_alu_result .adc (.imm (packedBcd y)) s
  obtain ⟨u, hu, ⟨hval, hcy, -⟩, -⟩ := exec_daa_result t
  refine ⟨t, u, ht, hu, ?_⟩
  obtain ⟨hsum, hsumCy, hsumAc, -⟩ : IsSum (packedBcd x) (packedBcd y) s.flags.cy t.regs.a t.flags := by
    rw [htA, htF, ← ha]
    exact isSum_aluAdd s.regs.a (packedBcd y) s.flags.cy s.flags
  have hc := s.flags.cy.toNat_le
  rw [packedBcd_toNat hx, packedBcd_toNat hy] at hsum hsumCy hsumAc
  generalize s.flags.cy.toNat = c at *
  have hbin : x / 10 * 16 + x % 10 + (y / 10 * 16 + y % 10) + c = (x / 10 + y / 10) * 16 + (x % 10 + y % 10 + c) := by
    omega
  have hdec : x + y + c = (x / 10 + y / 10) * 10 + (x % 10 + y % 10 + c) := by omega
  rw [hbin] at hsum hsumCy
  have hlowDigits : (x / 10 * 16 + x % 10) % 16 + (y / 10 * 16 + y % 10) % 16 + c = x % 10 + y % 10 + c := by omega
  rw [hlowDigits] at hsumAc
  obtain ⟨hdigits, hhundred⟩ := decimal_adjust_of_digit_sums (h := x / 10 + y / 10) (l := x % 10 + y % 10 + c)
    (by omega) (by omega) hsum rfl
  simp only [hsumAc, hsumCy, decide_eq_true_iff] at hval hcy
  constructor
  · rw [BitVec.toNat_eq, hval, packedBcd_toNat (by omega), hdec]
    exact hdigits
  · rw [hcy, htKept.cfg, hwide, hdec, decide_eq_true rfl, Bool.and_true, ← Bool.decide_or, decide_eq_decide]
    exact hhundred

end Sys2Proof.Machine
end

section
/-! PROOFS. The stack (10_state.md R42 to R45; 20_memory.md R94; files 46 and 47; 60_exceptions.md R403), LHLD and SHLD
(40_nop_data_transfer.md R209, R210): two bytes at two addresses, read or written, and the results that rest on them. -/

namespace Sys2Proof.Machine

/-! ## Frames of several writes -/

theorem KeepsAllBut.mono {ds ds' : List Reg} {as as' : List Word} {s t : State} (h : KeepsAllBut ds as s t)
    (hds : ds ⊆ ds') (has : as ⊆ as') : KeepsAllBut ds' as' s t :=
  { h with
    regs := fun r hr => h.regs r fun hmem => hr (hds hmem)
    bytes := fun a ha => h.bytes a fun hmem => ha (has hmem) }

theorem KeepsAllBut.setReg {ds : List Reg} {as : List Word} {s u : State} (h : KeepsAllBut ds as s u) (r : Reg)
    (v : Byte) : KeepsAllBut (r :: ds) as s (u.setReg r v) :=
  { h with
    regs := fun q hq =>
      (Regs.get_set_other u.regs v (List.ne_of_not_mem_cons hq)).trans (h.regs q (List.not_mem_of_not_mem_cons hq)) }

theorem KeepsAllBut.writeByte {ds : List Reg} {as : List Word} {s u : State} (h : KeepsAllBut ds as s u) (a : Word)
    (v : Byte) : KeepsAllBut ds (a :: as) s (u.writeByte a v) :=
  { h with
    bytes := fun b hb => by
      rw [State.readByte_writeByte, if_neg (List.ne_of_not_mem_cons hb), h.bytes b (List.not_mem_of_not_mem_cons hb)] }

theorem KeepsAllBut.setSp {ds : List Reg} {as : List Word} {s u : State} (h : KeepsAllBut ds as s u) (v : Word) :
    KeepsAllBut ds as s (u.setSp v) := { h with }

/-- Without a register among the exceptions all registers are as before. -/
theorem KeepsAllBut.regs_eq {as : List Word} {s t : State} (h : KeepsAllBut [] as s t) : t.regs = s.regs :=
  Regs.ext_get fun r => h.regs r List.not_mem_nil

/-- Two writes of two addresses leave both bytes. -/
theorem readByte_two_writes (s : State) {a b : Word} (h : a ≠ b) (v w : Byte) :
    ((s.writeByte a v).writeByte b w).readByte a = v ∧ ((s.writeByte a v).writeByte b w).readByte b = w := by
  refine ⟨?_, State.readByte_writeByte_self _ b w⟩
  rw [State.readByte_writeByte, if_neg h, State.readByte_writeByte_self]

theorem add_one_ne_self (a : Word) : a ≠ a + 1 := by
  intro h
  have h' := congrArg BitVec.toNat h
  rw [BitVec.toNat_add] at h'
  change a.toNat = (a.toNat + 1) % 65536 at h'
  omega

/-! ## LHLD and SHLD -/

/-- R93: the second byte has an address, the next one, unless the address is the last and the policy is `Fault`. -/
theorem exists_dataAddr_one_iff (cfg : Config) (w : Word) :
    (∃ next, dataAddr cfg w 1 = .ok next) ↔ (w ≠ 0xFFFF ∨ cfg.dataAddrPolicy = .wrap) := by
  have hlast : w = 0xFFFF ↔ w.toNat = 0xFFFF := BitVec.toNat_eq
  have hlt := w.isLt
  constructor
  · rintro ⟨next, hnext⟩
    by_contra hcon
    rw [not_or, not_not, hlast] at hcon
    obtain ⟨hw, hpol⟩ := hcon
    have hfault : cfg.dataAddrPolicy = .fault := by
      cases hp : cfg.dataAddrPolicy with
      | fault => rfl
      | wrap => exact absurd hp hpol
    rw [dataAddr, hfault, offsetAddr_fault _ _ (by omega)] at hnext
    cases hnext
  · rintro h
    exact ⟨_, offsetAddr_eq_ok (h.imp_left fun hne => ⟨by omega, by rw [ne_eq, hlast] at hne; omega⟩)⟩

theorem dataAddr_last {cfg : Config} (h : cfg.dataAddrPolicy = .fault) : dataAddr cfg 0xFFFF 1 = .error 0x10000 := by
  rw [dataAddr, h, offsetAddr_fault _ _ (by decide)]
  rfl

theorem exec_lhld_result {w next : Word} {s : State} (h : dataAddr s.cfg w 1 = .ok next) :
    ∃ t, exec (.lhld w) s = .next t ∧ t.regs.l = s.readByte w ∧ t.regs.h = s.readByte next ∧ next = w + 1 ∧
      KeepsAllBut [.h, .l] [] s t ∧ t.flags = s.flags ∧ t.sp = s.sp ∧ Advances (.lhld w) s t :=
  ⟨((s.setReg .l (s.readByte w)).setReg .h (s.readByte next)).past (.lhld w), by rw [exec_lhld, h, withAddr_ok], rfl,
    rfl, offsetAddr_ok h,
    (((keepsAllBut_refl s).setReg .l _).setReg .h _).past _, rfl, rfl, advances_past rfl rfl _⟩

theorem exec_shld_result {w next : Word} {s : State} (h : dataAddr s.cfg w 1 = .ok next) :
    ∃ t, exec (.shld w) s = .next t ∧ t.readByte w = s.regs.l ∧ t.readByte next = s.regs.h ∧ next = w + 1 ∧
      KeepsAllBut [] [w, next] s t ∧ t.flags = s.flags ∧ t.sp = s.sp ∧ Advances (.shld w) s t := by
  have hnext : next = w + 1 := offsetAddr_ok h
  obtain ⟨hl, hh⟩ := readByte_two_writes s (hnext ▸ add_one_ne_self w) s.regs.l s.regs.h
  have hkept := (((keepsAllBut_refl s).writeByte w s.regs.l).writeByte next s.regs.h).past (.shld w)
  exact ⟨((s.writeByte w s.regs.l).writeByte next s.regs.h).past (.shld w), by rw [exec_shld, h, withAddr_ok],
    hl, hh, hnext, hkept.mono (List.Subset.refl _) (by simp), rfl, rfl, advances_past rfl rfl _⟩

/-- Settles O26: with an address for the second byte both loads and both stores are made, and without one neither. -/
theorem hlLoadAndStoreResults : Obligations.HlLoadAndStoreResults := by
  refine ⟨fun w next s h => exec_lhld_result h, fun w next s h => exec_shld_result h,
    fun w s => exists_dataAddr_one_iff s.cfg w, fun s hp => ⟨?_, ?_⟩⟩
  · rw [exec_lhld, dataAddr_last hp, withAddr_error]
  · rw [exec_shld, dataAddr_last hp, withAddr_error]

/-! ## A push -/

/-- The state after a push of v with the high byte at hi and the low byte at lo (R44). -/
def State.pushed (s : State) (hi lo v : Word) : State :=
  ((s.writeByte hi (hi8 v)).writeByte lo (lo8 v)).setSp (s.sp - 2)

/-- `State.pushed` is what `push16` answers where both addresses exist. -/
theorem push16_eq_next_pushed {s : State} {hi lo : Word} (hhi : stackAddr s.cfg s.sp (-1) = .ok hi)
    (hlo : stackAddr s.cfg s.sp (-2) = .ok lo) (v : Word) : push16 v s = .next (s.pushed hi lo v) :=
  push16_of_addrs hhi hlo

theorem keepsAllBut_pushed (s : State) (hi lo v : Word) : KeepsAllBut [] [hi, lo] s (s.pushed hi lo v) :=
  ((((keepsAllBut_refl s).writeByte hi _).writeByte lo _).setSp _).mono (List.Subset.refl _) (by simp)

section
variable {i : Instr} {s : State} {hi lo : Word} (hhi : stackAddr s.cfg s.sp (-1) = .ok hi)
  (hlo : stackAddr s.cfg s.sp (-2) = .ok lo)
include hhi hlo

/-- The result of an instruction that pushes v and moves on: PUSH. -/
theorem exec_result_of_push {v : Word} (h : exec i s = chain (push16 v s) fun t => .next (t.past i)) :
    ∃ t, exec i s = .next t ∧ t.sp = s.sp - 2 ∧ t.readByte hi = hi8 v ∧ t.readByte lo = lo8 v ∧
      KeepsAllBut [] [hi, lo] s t ∧ t.flags = s.flags ∧ Advances i s t := by
  obtain ⟨hrhi, hrlo⟩ := readByte_two_writes s (push_addrs_ne hhi hlo) (hi8 v) (lo8 v)
  exact ⟨(s.pushed hi lo v).past i, by rw [h, push16_eq_next_pushed hhi hlo, chain_next], rfl, hrhi, hrlo,
    (keepsAllBut_pushed s hi lo v).past i, rfl, advances_past rfl rfl i⟩

/-- The result of an instruction that calls: CALL, Ccc and RST. -/
theorem exec_result_of_callTo {taken : Bool} {ret target : Word}
    (h : exec i s = callTo i.opcode taken ret target s) :
    ∃ t, exec i s = .next t ∧ t.pc = target ∧ t.sp = s.sp - 2 ∧ t.readByte hi = hi8 ret ∧ t.readByte lo = lo8 ret ∧
      KeepsAllBut [] [hi, lo] s t ∧ t.flags = s.flags ∧ Reports i taken s t := by
  obtain ⟨hrhi, hrlo⟩ := readByte_two_writes s (push_addrs_ne hhi hlo) (hi8 ret) (lo8 ret)
  refine ⟨(s.pushed hi lo ret).jumped i taken target, ?_, rfl, rfl, hrhi, hrlo,
    (keepsAllBut_pushed s hi lo ret).jumped i taken target, rfl, reports_jumped rfl i taken target⟩
  rw [h, callTo, push16_eq_next_pushed hhi hlo, chain_next, jumpTo_eq_next_jumped]

end

/-- CALL is a call when the self-test intercept does not take it. -/
theorem exec_call_of_harnessStatus_none {w : Word} {s : State} (h : harnessStatus w s = none) :
    exec (.call w) s = callTo (Instr.call w).opcode false (s.pc + 3) w s := by
  rw [exec_call, execCall, h]
  rfl

/-- Settles O40: CALL and RST are calls that are not marked taken. -/
theorem callAndRestartResults : Obligations.CallAndRestartResults := by
  refine fun s hi lo hhi hlo =>
    ⟨fun w hw => exec_result_of_callTo hhi hlo (exec_call_of_harnessStatus_none hw), fun n => ?_⟩
  obtain ⟨t, ht, hpc, hrest⟩ := exec_result_of_callTo hhi hlo (exec_rst n s)
  have hn := n.isLt
  refine ⟨t, ht, ?_, hrest⟩
  rw [hpc, BitVec.toNat_ofNat]
  omega

/-- Settles O41: Ccc is a call or the plain end of an instruction. -/
theorem conditionalCallResults : Obligations.ConditionalCallResults :=
  ⟨fun _ w _ _ _ hc hhi hlo => exec_result_of_callTo hhi hlo (exec_ccc_of_condTrue hc w),
    fun _ w s hc => ⟨_, exec_ccc_of_not_condTrue hc w, (keepsAllBut_refl s).past _, rfl, rfl, advances_past rfl rfl _⟩⟩

theorem hi8_stackPair (g : Regs) (p : StackPair) : hi8 (g.stackPair p) = g.get (stackPairRegs p).1 := by
  cases p <;> exact hi8_pair _ _

theorem lo8_stackPair (g : Regs) (p : StackPair) : lo8 (g.stackPair p) = g.get (stackPairRegs p).2 := by
  cases p <;> exact lo8_pair _ _

/-- R42. -/
theorem flagByte_toNat (f : Flags) :
    (flagByte f).toNat = f.s.toNat * 128 + f.z.toNat * 64 + f.ac.toNat * 16 + f.p.toNat * 4 + 2 + f.cy.toNat := by
  have := f.s.toNat_le
  have := f.z.toNat_le
  have := f.ac.toNat_le
  have := f.p.toNat_le
  have := f.cy.toNat_le
  rw [flagByte, BitVec.toNat_ofNat]
  omega

/-- Settles O46: PUSH pushes the pair, or A and the flag byte. -/
theorem pushResults : Obligations.PushResults := by
  refine fun s hi lo hhi hlo => ⟨fun p => ?pair, ?psw⟩
  case pair =>
    obtain ⟨t, ht, hsp, hrhi, hrlo, hrest⟩ := exec_result_of_push hhi hlo (exec_push p s)
    exact ⟨t, ht, hsp, hrhi.trans (hi8_stackPair s.regs p), hrlo.trans (lo8_stackPair s.regs p), hrest⟩
  case psw =>
    obtain ⟨t, ht, hsp, hrhi, hrlo, hrest⟩ := exec_result_of_push hhi hlo (exec_pushPSW s)
    have hflags : t.readByte lo = flagByte s.flags := hrlo.trans (lo8_pair _ _)
    exact ⟨t, ht, hsp, hrhi.trans (hi8_pair _ _), hflags ▸ flagByte_toNat s.flags, hrest⟩

/-! ## A pop -/

section
variable {i : Instr} {s : State} {lo hi : Word} (hlo : stackAddr s.cfg s.sp 0 = .ok lo)
  (hhi : stackAddr s.cfg s.sp 1 = .ok hi)
include hlo hhi

/-- The result of an instruction that pops PC: RET and Rcc. -/
theorem exec_result_of_popPc {taken : Bool} (h : exec i s = popPc i.opcode taken s) :
    ∃ t, exec i s = .next t ∧ t.pc = pair (s.readByte hi) (s.readByte lo) ∧ t.sp = s.sp + 2 ∧
      KeepsAllBut [] [] s t ∧ t.flags = s.flags ∧ Reports i taken s t :=
  ⟨(s.setSp (s.sp + 2)).jumped i taken (pair (s.readByte hi) (s.readByte lo)),
    by rw [h, popPc, pop16_of_addrs hlo hhi]; rfl, rfl, rfl,
    ((keepsAllBut_refl s).setSp _).jumped i taken _, rfl, reports_jumped rfl i taken _⟩

/-- POP of a pair writes the high byte to its first register and the low byte to its second. -/
theorem exec_pop_result (p : StackPair) :
    ∃ t, exec (.pop p) s = .next t ∧ t.sp = s.sp + 2 ∧ t.reg (stackPairRegs p).1 = s.readByte hi ∧
      t.reg (stackPairRegs p).2 = s.readByte lo ∧
      KeepsAllBut [(stackPairRegs p).1, (stackPairRegs p).2] [] s t ∧ t.flags = s.flags ∧ Advances (.pop p) s t := by
  have hregs : s.regs.setStackPair p (pair (s.readByte hi) (s.readByte lo)) =
      (s.regs.set (stackPairRegs p).2 (s.readByte lo)).set (stackPairRegs p).1 (s.readByte hi) := by
    cases p <;> simp [Regs.setStackPair, Regs.setBc, Regs.setDe, Regs.setHl, Regs.set, stackPairRegs]
  have hne : (stackPairRegs p).2 ≠ (stackPairRegs p).1 := by cases p <;> decide
  have hkept := (((keepsAllBut_refl s).setSp (s.sp + 2)).setReg (stackPairRegs p).2 (s.readByte lo)).setReg
    (stackPairRegs p).1 (s.readByte hi)
  refine ⟨(((s.setSp (s.sp + 2)).setReg (stackPairRegs p).2 (s.readByte lo)).setReg (stackPairRegs p).1
    (s.readByte hi)).past (.pop p), ?_, rfl, Regs.get_set_self _ _ _, ?_, hkept.past (.pop p), rfl,
    advances_past rfl rfl _⟩
  · rw [exec_pop, pop16_of_addrs hlo hhi, hregs]
    rfl
  · exact (Regs.get_set_other _ _ hne).trans (Regs.get_set_self _ _ _)

/-- POP PSW writes A with the high byte and the flags with the low byte. -/
theorem exec_popPSW_result :
    ∃ t, exec .popPSW s = .next t ∧ t.sp = s.sp + 2 ∧ t.regs.a = s.readByte hi ∧
      t.flags = flagsOfByte (s.readByte lo) ∧ KeepsAllBut [.a] [] s t ∧ Advances .popPSW s t :=
  ⟨(((s.setSp (s.sp + 2)).setReg .a (s.readByte hi)).setFlags (flagsOfByte (s.readByte lo))).past .popPSW,
    by rw [exec_popPSW, pop16_of_addrs hlo hhi, hi8_pair, lo8_pair]; rfl, rfl, rfl, rfl,
    ((((keepsAllBut_refl s).setSp _).setReg .a _).setFlags _).past _, advances_past rfl rfl _⟩

end

/-- Settles O42: RET and a taken Rcc pop PC, an untaken Rcc only ends. -/
theorem returnResults : Obligations.ReturnResults :=
  ⟨fun s _ _ hlo hhi => ⟨exec_result_of_popPc hlo hhi (exec_ret s),
      fun _ hc => exec_result_of_popPc hlo hhi (exec_rcc_of_condTrue hc)⟩,
    fun _ s hc => ⟨_, exec_rcc_of_not_condTrue hc, (keepsAllBut_refl s).past _, rfl, rfl, advances_past rfl rfl _⟩⟩

/-- Settles O47: POP writes the pair, or A and the flags of the low byte's bits. -/
theorem popResults : Obligations.PopResults := by
  refine fun s lo hi hlo hhi => ⟨exec_pop_result hlo hhi, ?_⟩
  obtain ⟨t, ht, hsp, ha, hf, hkept, hadv⟩ := exec_popPSW_result hlo hhi
  refine ⟨t, ht, hsp, ha, ?_⟩
  rw [hf]
  exact ⟨rfl, rfl, rfl, rfl, rfl, hkept, hadv⟩

/-! ## A push and then a pop -/

/-- Under `Wrap` the two bytes of a push are those of the next pop. -/
theorem pop_addrs_after_push {cfg : Config} (h : cfg.stackAddrPolicy = .wrap) (sp : Word) :
    stackAddr cfg (sp - 2) 0 = .ok (sp + BitVec.ofInt 16 (-2)) ∧
      stackAddr cfg (sp - 2) 1 = .ok (sp + BitVec.ofInt 16 (-1)) := by
  have h0 : sp - 2 + BitVec.ofInt 16 0 = sp + BitVec.ofInt 16 (-2) := by
    rw [sub_eq_add_neg, add_assoc]
    rfl
  have h1 : sp - 2 + BitVec.ofInt 16 1 = sp + BitVec.ofInt 16 (-1) := by
    rw [sub_eq_add_neg, add_assoc]
    rfl
  exact ⟨h0 ▸ offsetAddr_eq_ok (.inr h), h1 ▸ offsetAddr_eq_ok (.inr h)⟩

/-- Settles O43: RET pops the two bytes CALL pushed. -/
theorem callThenReturnComesBack : Obligations.CallThenReturnComesBack := by
  intro w s hw hnone
  obtain ⟨hhi, hlo⟩ := push_addrs_of_wrap hw s.sp
  obtain ⟨t, ht, -, hsp, hrhi, hrlo, hkept, hflags, -⟩ :=
    exec_result_of_callTo hhi hlo (exec_call_of_harnessStatus_none hnone)
  obtain ⟨hplo, hphi⟩ := pop_addrs_after_push (cfg := t.cfg) (hkept.cfg ▸ hw) s.sp
  obtain ⟨u, hu, hpc, husp, hukept, huflags, -⟩ := exec_result_of_popPc (hsp ▸ hplo) (hsp ▸ hphi) (exec_ret t)
  refine ⟨t, u, ht, hu, ?_, ?_, hukept.regs_eq.trans hkept.regs_eq, huflags.trans hflags, hukept.inte.trans hkept.inte⟩
  · rw [hpc, hrhi, hrlo, pair_hi8_lo8]
  · rw [husp, hsp, sub_add_cancel]

/-- R42, R43: the flag byte holds all five flags. -/
theorem flagsOfByte_flagByte (f : Flags) : flagsOfByte (flagByte f) = f := by
  obtain ⟨s, z, ac, p, cy⟩ := f
  cases s <;> cases z <;> cases ac <;> cases p <;> cases cy <;> rfl

/-- Settles O48: POP pops the two bytes PUSH pushed. -/
theorem popAfterPushRestores : Obligations.PopAfterPushRestores := by
  intro s hw
  obtain ⟨hhi, hlo⟩ := push_addrs_of_wrap hw s.sp
  refine ⟨fun p => ?pair, ?psw⟩
  case pair =>
    obtain ⟨t, ht, hsp, hrhi, hrlo, hkept, hflags, -⟩ := exec_result_of_push hhi hlo (exec_push p s)
    obtain ⟨hplo, hphi⟩ := pop_addrs_after_push (cfg := t.cfg) (hkept.cfg ▸ hw) s.sp
    obtain ⟨u, hu, husp, hfst, hsnd, hukept, huflags, -⟩ := exec_pop_result (hsp ▸ hplo) (hsp ▸ hphi) p
    refine ⟨t, u, ht, hu, Regs.ext_get fun r => ?_, huflags.trans hflags, by rw [husp, hsp, sub_add_cancel]⟩
    by_cases h1 : r = (stackPairRegs p).1
    · exact h1 ▸ hfst.trans (hrhi.trans (hi8_stackPair s.regs p))
    by_cases h2 : r = (stackPairRegs p).2
    · exact h2 ▸ hsnd.trans (hrlo.trans (lo8_stackPair s.regs p))
    · exact (hukept.regs r (by simp [h1, h2])).trans (hkept.regs r List.not_mem_nil)
  case psw =>
    obtain ⟨t, ht, hsp, hrhi, hrlo, hkept, hflags, -⟩ := exec_result_of_push hhi hlo (exec_pushPSW s)
    obtain ⟨hplo, hphi⟩ := pop_addrs_after_push (cfg := t.cfg) (hkept.cfg ▸ hw) s.sp
    obtain ⟨u, hu, husp, ha, hf, hukept, -⟩ := exec_popPSW_result (hsp ▸ hplo) (hsp ▸ hphi)
    refine ⟨t, u, ht, hu, Regs.ext_get fun r => ?_, ?_, by rw [husp, hsp, sub_add_cancel]⟩
    · by_cases hr : r = .a
      · rw [hr]
        exact ha.trans (hrhi.trans (hi8_pair _ _))
      · exact (hukept.regs r (by simp [hr])).trans (hkept.regs r List.not_mem_nil)
    · rw [hf, hrlo, State.psw, lo8_pair, flagsOfByte_flagByte]

/-! ## The exchanges -/

theorem keepsAllBut_exchangeDeHl (s : State) : KeepsAllBut [.d, .e, .h, .l] [] s (exchangeDeHl s) := by
  have hkept : KeepsAllBut [.e, .d, .l, .h] [] s (exchangeDeHl s) :=
    ((((keepsAllBut_refl s).setReg .h (hi8 s.regs.de)).setReg .l (lo8 s.regs.de)).setReg .d (hi8 s.regs.hl)).setReg .e
      (lo8 s.regs.hl)
  exact hkept.mono (by decide) (List.Subset.refl _)

theorem exec_xchg_result (s : State) :
    ∃ t, exec .xchg s = .next t ∧ t.regs.d = s.regs.h ∧ t.regs.e = s.regs.l ∧ t.regs.h = s.regs.d ∧
      t.regs.l = s.regs.e ∧ KeepsAllBut [.d, .e, .h, .l] [] s t ∧ t.flags = s.flags ∧ t.sp = s.sp ∧
      Advances .xchg s t :=
  ⟨_, exec_xchg s, hi8_pair _ _, lo8_pair _ _, hi8_pair _ _, lo8_pair _ _, (keepsAllBut_exchangeDeHl s).past _, rfl,
    rfl, advances_past rfl rfl _⟩

/-- The addresses SP and SP+1 modulo 2^16 differ. -/
theorem pop_addrs_ne {cfg : Config} {sp lo hi : Word} (hlo : stackAddr cfg sp 0 = .ok lo)
    (hhi : stackAddr cfg sp 1 = .ok hi) : lo ≠ hi := by
  rw [offsetAddr_ok hlo, offsetAddr_ok hhi]
  intro h
  exact absurd (add_left_cancel h) (by decide)

theorem exec_xthl_result {s : State} {lo hi : Word} (hlo : stackAddr s.cfg s.sp 0 = .ok lo)
    (hhi : stackAddr s.cfg s.sp 1 = .ok hi) :
    ∃ t, exec .xthl s = .next t ∧ t.regs.l = s.readByte lo ∧ t.regs.h = s.readByte hi ∧
      t.readByte lo = s.regs.l ∧ t.readByte hi = s.regs.h ∧ KeepsAllBut [.h, .l] [lo, hi] s t ∧
      t.flags = s.flags ∧ t.sp = s.sp ∧ Advances .xthl s t := by
  obtain ⟨hl, hh⟩ := readByte_two_writes s (pop_addrs_ne hlo hhi) s.regs.l s.regs.h
  have hkept := (((((keepsAllBut_refl s).writeByte lo s.regs.l).writeByte hi s.regs.h).setReg .l
    (s.readByte lo)).setReg .h (s.readByte hi)).past .xthl
  exact ⟨((((s.writeByte lo s.regs.l).writeByte hi s.regs.h).setReg .l (s.readByte lo)).setReg .h
    (s.readByte hi)).past .xthl, by rw [exec_xthl, hlo, hhi, withAddr_ok, withAddr_ok], rfl, rfl, hl, hh,
    hkept.mono (List.Subset.refl _) (by simp), rfl, rfl, advances_past rfl rfl _⟩

/-- Settles O49: the exchanges and the transfers of HL, whose number is that of its two registers. -/
theorem exchangeAndHlTransferResults : Obligations.ExchangeAndHlTransferResults :=
  ⟨exec_xchg_result, fun _ _ _ hlo hhi => exec_xthl_result hlo hhi,
    fun s => ⟨_, exec_sphl s, pair_toNat _ _, ((keepsAllBut_refl s).setSp _).past _, rfl, advances_past rfl rfl _⟩,
    fun s => ⟨_, exec_pchl s, pair_toNat _ _, (keepsAllBut_refl s).jumped _ false _, rfl, rfl,
      reports_jumped rfl _ false _⟩⟩

/-! ## Past the end -/

/-- R94: at SP 0 the high byte has no address, at SP 1 the low byte; both are formed as -1. -/
theorem push16_past_end {s : State} (hp : s.cfg.stackAddrPolicy = .fault) (hsp : s.sp = 0x0000 ∨ s.sp = 0x0001)
    (v : Word) : push16 v s = .fault (.addressOutOfRange (-1) s.pc) := by
  rcases hsp with hsp | hsp
  · have hhi : stackAddr s.cfg s.sp (-1) = .error (-1) := by rw [stackAddr, hp, hsp]; rfl
    rw [push16, hhi, withAddr_error]
  · have hhi : stackAddr s.cfg s.sp (-1) = .ok 0x0000 := by rw [stackAddr, hp, hsp]; rfl
    have hlo : stackAddr s.cfg s.sp (-2) = .error (-1) := by rw [stackAddr, hp, hsp]; rfl
    rw [push16, hhi, withAddr_ok, hlo, withAddr_error]

/-- At SP 0xFFFF the high byte of a pop is formed at 0x10000. -/
theorem pop_addrs_past_end {s : State} (hp : s.cfg.stackAddrPolicy = .fault) (hsp : s.sp = 0xFFFF) :
    stackAddr s.cfg s.sp 0 = .ok 0xFFFF ∧ stackAddr s.cfg s.sp 1 = .error 0x10000 := by
  rw [stackAddr, stackAddr, hp, hsp, offsetAddr_inRange _ _ _ (by decide), offsetAddr_fault _ _ (by decide)]
  exact ⟨rfl, rfl⟩

theorem pop16_past_end {s : State} (hp : s.cfg.stackAddrPolicy = .fault) (hsp : s.sp = 0xFFFF)
    (k : Word → State → Res) : pop16 s k = .fault (.addressOutOfRange 0x10000 s.pc) := by
  obtain ⟨hlo, hhi⟩ := pop_addrs_past_end hp hsp
  rw [pop16, hlo, withAddr_ok, hhi, withAddr_error]

theorem callTo_past_end {s : State} (hp : s.cfg.stackAddrPolicy = .fault) (hsp : s.sp = 0x0000 ∨ s.sp = 0x0001)
    (op : Byte) (taken : Bool) (ret target : Word) :
    callTo op taken ret target s = .fault (.addressOutOfRange (-1) s.pc) := by
  rw [callTo, push16_past_end hp hsp, chain_fault]

theorem interrupt_past_end {s : State} (hp : s.cfg.stackAddrPolicy = .fault) (hsp : s.sp = 0x0000 ∨ s.sp = 0x0001)
    (hi : s.inte = true) (n : IrqLine) : interrupt n s = .fault (.addressOutOfRange (-1) s.pc) := by
  rw [interrupt, if_pos hi, push16_past_end (s := { s with inte := false, halted := false }) hp hsp, chain_fault]

/-- Settles O45: every push and every pop raises the fault of its first byte without an address. -/
theorem stackAccessPastTheEndFaults : Obligations.StackAccessPastTheEndFaults := by
  refine fun s hp => ⟨fun hsp => ⟨fun p => ?push, ?pushPSW, fun w hw => ?call, fun cnd w hc => ?ccc, fun n => ?rst,
    interrupt_past_end hp hsp⟩, fun hsp => ⟨fun p => ?pop, ?popPSW, ?ret, fun cnd hc => ?rcc, ?xthl⟩⟩
  case push => rw [exec_push, push16_past_end hp hsp, chain_fault]
  case pushPSW => rw [exec_pushPSW, push16_past_end hp hsp, chain_fault]
  case call => rw [exec_call_of_harnessStatus_none hw, callTo_past_end hp hsp]
  case ccc => rw [exec_ccc_of_condTrue hc, callTo_past_end hp hsp]
  case rst => rw [exec_rst, callTo_past_end hp hsp]
  case pop => rw [exec_pop, pop16_past_end hp hsp]
  case popPSW => rw [exec_popPSW, pop16_past_end hp hsp]
  case ret => rw [exec_ret, popPc, pop16_past_end hp hsp]
  case rcc => rw [exec_rcc_of_condTrue hc, popPc, pop16_past_end hp hsp]
  case xthl =>
    obtain ⟨hlo, hhi⟩ := pop_addrs_past_end hp hsp
    rw [exec_xthl, hlo, withAddr_ok, hhi, withAddr_error]

end Sys2Proof.Machine
end

section
/-! PROOFS. Construction and reset (70_reset_and_hazards.md R500, R501, R503), EI, DI and HLT (file 48), the intercept of
the self-test (60_exceptions.md R448) and the default cycles (70_reset_and_hazards.md R520). -/

namespace Sys2Proof.Machine

/-! ## Loading an image -/

theorem read_writeBytes_outside (m : Memory) (start : Nat) (bytes : List Byte) {a : Nat}
    (h : a < start ∨ start + bytes.length ≤ a) : (m.writeBytes start bytes).read a = m.read a := by
  induction bytes generalizing m start with
  | nil => rfl
  | cons v rest ih =>
    rw [List.length_cons] at h
    rw [Memory.writeBytes, ih _ _ (by omega), Memory.read_write_other _ _ (by omega)]

theorem read_writeBytes_inside (m : Memory) (start : Nat) (bytes : List Byte) (k : Nat) (h : k < bytes.length) :
    (m.writeBytes start bytes).read (start + k) = bytes[k] := by
  induction bytes generalizing m start k with
  | nil => exact absurd h (Nat.not_lt_zero k)
  | cons v rest ih =>
    rw [Memory.writeBytes]
    cases k with
    | zero =>
      rw [read_writeBytes_outside _ _ _ (by omega)]
      exact Memory.read_write_self m start v
    | succ k =>
      rw [← Nat.add_assoc, Nat.add_right_comm]
      exact ih _ _ k (Nat.lt_of_succ_lt_succ h)

/-- Settles O2: the image is the bytes loaded from its offset on, and the test of its end decides the refusal. -/
theorem bootLoadsTheImageAndSetsTheCore : Obligations.BootLoadsTheImageAndSetsTheCore := by
  refine fun cfg b => ⟨fun hfits => ⟨_, if_neg (Nat.not_lt.mpr hfits), ?inside, ?outside, ?fields⟩, fun h => if_pos h⟩
  case inside => exact fun k hk => read_writeBytes_inside b.memInit b.offset b.image k hk
  case outside => exact fun a ha => read_writeBytes_outside b.memInit b.offset b.image ha
  case fields => exact ⟨rfl, rfl, rfl, rfl, rfl, rfl, rfl, rfl, rfl, rfl, rfl⟩

/-- Settles O1: both sides are the same values. -/
theorem resetGivesThePlatformValues : Obligations.ResetGivesThePlatformValues :=
  ⟨rfl, rfl, rfl, rfl, rfl, rfl, rfl, rfl, rfl, rfl, rfl⟩

/-- Settles O52 by the meaning of each of the three. -/
theorem enableDisableAndHaltResults : Obligations.EnableDisableAndHaltResults :=
  fun s => ⟨exec_ei s, exec_di s, exec_hlt s⟩

/-! ## The intercept of the self-test -/

theorem exec_call_of_harnessStatus_some {w : Word} {s : State} {x : Status} (h : harnessStatus w s = some x) :
    exec (.call w) s = .next (s.countDraw.setReport { status := x, cycles := cycleTable s.cfg 0xCD false }) := by
  rw [exec_call, execCall, h]

theorem harnessStatus_success {s : State} (ht : s.cfg.testHarness = true) (hc : s.regs.c = 0x09)
    (hd : s.regs.d = 0x01) (he : s.regs.e = 0x74) : harnessStatus 0x0005 s = some (.success s.message) := by
  rw [harnessStatus, if_pos ⟨ht, rfl, hc⟩, hd, he]
  rfl

theorem harnessStatus_failure {s : State} (ht : s.cfg.testHarness = true) (hc : s.regs.c = 0x09)
    (hd : s.regs.d = 0x01) (he : s.regs.e = 0x8B) :
    harnessStatus 0x0005 s = some (.failure s.message (harnessBacktrace s)) := by
  rw [harnessStatus, if_pos ⟨ht, rfl, hc⟩, hd, he]
  rfl

/-- A pair is a word when its registers are the word's two bytes. -/
theorem pair_eq_iff {h l : Byte} {w : Word} : pair h l = w ↔ h = hi8 w ∧ l = lo8 w := by
  constructor
  · rintro rfl
    exact ⟨(hi8_pair h l).symm, (lo8_pair h l).symm⟩
  · rintro ⟨rfl, rfl⟩
    exact pair_hi8_lo8 w

theorem harnessStatus_none {w : Word} {s : State}
    (h : s.cfg.testHarness = false ∨ w ≠ 0x0005 ∨ s.regs.c ≠ 0x09 ∨ s.regs.d ≠ 0x01 ∨
      (s.regs.e ≠ 0x74 ∧ s.regs.e ≠ 0x8B)) : harnessStatus w s = none := by
  have hsuccess : pair s.regs.d s.regs.e = 0x0174 ↔ s.regs.d = 0x01 ∧ s.regs.e = 0x74 := pair_eq_iff
  have hfailure : pair s.regs.d s.regs.e = 0x018B ↔ s.regs.d = 0x01 ∧ s.regs.e = 0x8B := pair_eq_iff
  rw [harnessStatus]
  split
  next hcall =>
    obtain ⟨ht, hw, hc⟩ := hcall
    have hde : s.regs.d ≠ 0x01 ∨ (s.regs.e ≠ 0x74 ∧ s.regs.e ≠ 0x8B) := by simpa [ht, hw, hc] using h
    rw [if_neg (by rw [hsuccess]; tauto), if_neg (by rw [hfailure]; tauto)]
  next => rfl

/-- R448: the backtrace is the word on the stack less 6. -/
theorem harnessBacktrace_eq (s : State) :
    harnessBacktrace s = ((s.readByte (s.sp + 1)).toNat * 256 + (s.readByte s.sp).toNat : Int) - 6 := by
  rw [harnessBacktrace, pair_toNat]
  push_cast
  rfl

/-- Settles O56: CALL follows the intercept's answer, and a run that has ended is refused a step. -/
theorem selfTestInterceptEndsTheRun : Obligations.SelfTestInterceptEndsTheRun := by
  refine ⟨fun s ht hc hd he => exec_call_of_harnessStatus_some (harnessStatus_success ht hc hd he), ?failure,
    fun w s h => exec_call_of_harnessStatus_none (harnessStatus_none h), ?ended⟩
  case failure =>
    intro s ht hc hd he
    rw [exec_call_of_harnessStatus_some (harnessStatus_failure ht hc hd he), harnessBacktrace_eq]
    rfl
  case ended =>
    rintro s m b (h | h) <;> exact step_of_ended (by rw [State.ended, h])

/-! ## The default cycles -/

theorem cycleTable_of_no_entries {cfg : Config} (h : cfg.cycleEntries = []) (op : Byte) (b : Bool) :
    cycleTable cfg op b = defaultCycles op.toNat b := by
  rw [cycleTable, h]
  rfl

/-! The opcode byte does not depend on the operand bytes. -/

theorem opcode_lxi (p : Pair) (v : Word) : (Instr.lxi p v).opcode = (Instr.lxi p 0).opcode := by
  cases p <;> rfl

theorem opcode_mvi (r : Reg) (v : Byte) : (Instr.mvi r v).opcode = (Instr.mvi r 0).opcode := by
  cases r <;> rfl

theorem opcode_alu_imm (k : AluOp) (v : Byte) : (Instr.alu k (.imm v)).opcode = (Instr.alu k (.imm 0)).opcode := by
  cases k <;> rfl

theorem opcode_jcc (cnd : Cond) (w : Word) : (Instr.jcc cnd w).opcode = (Instr.jcc cnd 0).opcode := by
  cases cnd <;> rfl

theorem opcode_ccc (cnd : Cond) (w : Word) : (Instr.ccc cnd w).opcode = (Instr.ccc cnd 0).opcode := by
  cases cnd <;> rfl

/-- Settles O60: without entries the cycles are the default's, opcode by opcode. -/
theorem defaultCyclesAreTheTables : Obligations.DefaultCyclesAreTheTables := by
  intro cfg b h
  simp only [cycleTable_of_no_entries h]
  refine ⟨by revert b; decide, ?pairs, ?addrPairs, ?regs, ?mov, by revert b; decide, by revert b; decide,
    by revert b; decide, by revert b; decide, ?aluReg, ?aluMem, ?cond, by revert b; decide, by revert b; decide,
    by revert b; decide, by revert b; decide, by revert b; decide, by revert b; decide, by revert b; decide⟩
  case pairs =>
    intro p v
    rw [opcode_lxi]
    cases b <;> cases p <;> exact ⟨rfl, rfl, rfl, rfl⟩
  case addrPairs =>
    intro p
    cases b <;> cases p <;> exact ⟨rfl, rfl⟩
  case regs =>
    intro r v
    rw [opcode_mvi]
    cases b <;> cases r <;> exact ⟨rfl, rfl, rfl, rfl, rfl⟩
  case mov =>
    intro dst r
    cases dst <;> cases r <;> rfl
  case aluReg =>
    intro k r
    cases k <;> cases r <;> rfl
  case aluMem =>
    intro k v
    rw [opcode_alu_imm]
    cases b <;> cases k <;> exact ⟨rfl, rfl⟩
  case cond =>
    intro cnd w
    rw [opcode_jcc, opcode_ccc]
    cases b <;> cases cnd <;> exact ⟨rfl, rfl, rfl⟩

end Sys2Proof.Machine
end
